-- ==== Sys2Proof/Word.lean ====
section
/-! DEFINITION. The word types of the JZ7240: bytes and fields of the two links, statistics counters, lift vectors. -/

namespace Sys2Proof

/-- One byte of either link (R179, R184). -/
abbrev Byte := BitVec 8

/-- A statistics counter: 32 bits, saturating (spec/00_scope.md section 5, R190). -/
abbrev Counter := BitVec 32

/-- A lift vector λ: bit `h` is the value of hook `h`, 0..12287 (R78, R85); 1 is raised. -/
abbrev Lift := BitVec 12288

/-- The values of one chain: bit `i` belongs to hook `chain × 3072 + i` (R127). -/
abbrev Share := BitVec 3072

/-- A colour index of a design cell, 0..15 (R46). -/
abbrev Colour := BitVec 4

/-- Entry `i` of a table of fixed length, `d` past its end. -/
def tabGet {α : Type} {n : Nat} (v : Vector α n) (i : Nat) (d : α) : α := v[i]?.getD d

/-- Table `v` with entry `i` replaced; unchanged past its end. -/
def tabSet {α : Type} {n : Nat} (v : Vector α n) (i : Nat) (x : α) : Vector α n := v.setIfInBounds i x

/-- Table `v` with `f i` applied to each entry `i`. -/
def tabMap {α β : Type} {n : Nat} (f : Nat → α → β) (v : Vector α n) : Vector β n :=
  ⟨⟨v.toList.zipIdx.map fun p => f p.2 p.1⟩, by simp⟩

end Sys2Proof
end

