-- ==== Sys2Proof/Config.lean ====
section
/-! DEFINITION. What the part fixes (sizes, codes' ranges) and the free values the manual leaves open. -/

namespace Sys2Proof.Config

/-- Hooks of one chain number: 48 modules of 64 hooks (spec/00_scope.md section 5). -/
def hooksPerChain : Nat := 3072
/-- Hooks carried by one solenoid module. -/
def hooksPerModule : Nat := 64
/-- Hook numbers 0..12287. -/
def hookCount : Nat := 12288
/-- Most records of the program queue (R25). -/
def queueCapacity : Nat := 32
/-- Most woven records of the history ring (R113). -/
def ringCapacity : Nat := 96
/-- Most entries of the hook fault table (R143). -/
def faultCapacity : Nat := 128
/-- Most messages of the loom link transmit queue (R187). -/
def txCapacity : Nat := 16
/-- Blocks of the pattern store (R46). -/
def blockCount : Nat := 65536
/-- Cells of one block (R46). -/
def cellsPerBlock : Nat := 512
/-- Bytes the design link's frame receive buffer holds (R171). -/
def frameBufferBytes : Nat := 1035

/-- FREE VALUE (log 2): the order in which parts of ONE event are taken where the spec gives an outcome for
either order (R5, R18, R168). Applied to the counter `State.free`; nothing constrains it. -/
opaque freeOrder : Nat → Nat

/-- FREE VALUE (log 3): how many of its reads (the map read, then one row read for each DESIGN section) the
composition in flight has taken when a write to its design is taken (R60, R70, R84). Applied to `State.free`. -/
opaque composerReads : Nat → Nat

end Sys2Proof.Config
end

