-- ==== Sys2Proof/Syntax.lean ====
section
/-! DEFINITION. The commands of the part: one constructor for each row of spec/opcode_table.json. Design link commands carry
their payload fields at the widths R179 gives them, so that every value the station can send can be written. -/

namespace Sys2Proof

/-- An optional field as R179 encodes it: a presence byte, then the field at its full width. -/
structure OptField (w : Nat) where
  present : Byte
  value : BitVec w
  deriving DecidableEq, Repr

/-- One entry of the slots field of COLORMAP_WRITE: an optional slot of weave, xs, ys and invert (R71, R179). -/
structure RawSlot where
  present : Byte
  weave : Byte
  xs : Byte
  ys : Byte
  invert : Byte
  deriving DecidableEq, Repr

/-- A value on a chain's data output or echo: the transfer marker, or a drive value or sensed state, raised or lowered (R133). -/
inductive ChainValue where
  | marker
  | level (raised : Bool)
  deriving DecidableEq, Repr

/-- The commands and events that change the part's state, in the order of spec/opcode_table.json. -/
inductive Instr where
  /-- POWER_ON. -/
  | powerOn
  /-- FORWARD_STEP. `early` bit c: chain c, if it is still shifting, has already returned the transfer marker (R137). -/
  | forwardStep (early : BitVec 4)
  /-- BACKWARD_STEP. -/
  | backwardStep
  /-- ILLEGAL_TRANSITION. -/
  | illegalTransition
  /-- FORWARD_INDEX_CROSSING. -/
  | forwardIndexCrossing
  /-- BACKWARD_INDEX_CROSSING. -/
  | backwardIndexCrossing
  /-- DEAD_TIME_COMPLETE: the forward step that completes a recorded dead time; `early` as for FORWARD_STEP. -/
  | deadTimeComplete (early : BitVec 4)
  /-- COMPOSITION_END. -/
  | compositionEnd
  /-- CHAIN_SHIFT_COMPLETE with the chain's echo, one value for each value shifted in, in the order they came: `values`, its first M × 64
  values, and `final`, the value at position M × 64 + 1 (R133). -/
  | chainShiftComplete (chain : Fin 4) (values : List ChainValue) (final : ChainValue)
  /-- AGING_PASS. -/
  | agingPass
  /-- WAIT_TIMEOUT. -/
  | waitTimeout
  /-- DEFINE_CLEAR_DONE. -/
  | defineClearDone
  /-- SUM_DONE. -/
  | sumDone
  /-- PROBE_COUNT_END. `marker`: the position, counted from 1, at which the probe marker returned, if it did (R130). -/
  | probeCountEnd (marker : Option Nat)
  /-- RUN. -/
  | run
  /-- STOP: bytes 1 and 2 of the message (R184). -/
  | stop (cause channel : Byte)
  /-- FIND. -/
  | find
  /-- PICK_BACK. -/
  | pickBack
  /-- PACKAGE_OUT: byte 1 of the message. -/
  | packageOut (channel : Byte)
  /-- PACKAGE_READY: byte 1 of the message. -/
  | packageReady (channel : Byte)
  /-- RELEASE_WAIT. -/
  | releaseWait
  /-- STATUS_ASK. -/
  | statusAsk
  /-- LL_MESSAGE_BAD_CHECK: the eight bytes of the message. -/
  | llMessageBadCheck (message : Vector Byte 8)
  /-- LL_UNKNOWN_KIND: the eight bytes of the message. -/
  | llUnknownKind (message : Vector Byte 8)
  /-- LL_FRAMING_ERROR. -/
  | llFramingError
  /-- LL_BYTE_GAP: the bytes `held` that came before the gap, then `byte` after it. -/
  | llByteGap (held : List Byte) (byte : Byte)
  /-- LL_MESSAGE_SENT. -/
  | llMessageSent
  /-- RESPONSE_READ: a bracket of 00h and then `clocked` further bytes. -/
  | responseRead (clocked : Nat)
  /-- BUSY_DISCARD: the bytes of the bracket. -/
  | busyDiscard (bytes : List Byte)
  /-- DL_UNKNOWN_FRAME: the bytes of the frame. -/
  | dlUnknownFrame (bytes : List Byte)
  /-- STATUS_READ. -/
  | statusRead
  /-- SOFT_RESET. -/
  | softReset
  /-- EVENTS_READ. -/
  | eventsRead
  /-- EVENTS_CLEAR. -/
  | eventsClear (mask : BitVec 16)
  /-- EVENTS_MASK. -/
  | eventsMask (mask : BitVec 16)
  /-- STATS_READ. -/
  | statsRead (group : Byte)
  /-- STATS_CLEAR. -/
  | statsClear (group : Byte)
  /-- ANGLES_WRITE. -/
  | anglesWrite (compose transfer latch weftRelease weftSelect : BitVec 16) (dead : Byte)
  /-- ANGLES_ARM. -/
  | anglesArm (mode : Byte)
  /-- ANGLES_READ. -/
  | anglesRead
  /-- STOP_MODE_WRITE. -/
  | stopModeWrite (cause mode : Byte)
  /-- SYNC_SOURCE. -/
  | syncSource (flag source : Byte)
  /-- SYNC_SET. -/
  | syncSet (mask : Byte)
  /-- SYNC_CLEAR. -/
  | syncClear (mask : Byte)
  /-- WAIT_SYNC. -/
  | waitSync (mask combination clear : Byte) (timeout : BitVec 16)
  /-- STEP_APPEND. -/
  | stepAppend (design : Byte) (rowFirst rowLast : BitVec 16) (vmode : Byte) (n : BitVec 16) (p weftSeq : Byte) (tag : OptField 16) (stopAtEnd : Byte)
  /-- STEP_CUT. -/
  | stepCut (seq : BitVec 16)
  /-- QUEUE_READ. -/
  | queueRead (index : Byte)
  /-- QUEUE_WATERMARK. -/
  | queueWatermark (value : Byte)
  /-- DESIGN_DEFINE. -/
  | designDefine (id : Byte) (w h : BitVec 16) (liveEdit : Byte)
  /-- DESIGN_DELETE. -/
  | designDelete (id : Byte)
  /-- DESIGN_INFO. -/
  | designInfo (id : Byte)
  /-- DESIGN_WINDOW. -/
  | designWindow (id : Byte) (col0 col1 row0 row1 : BitVec 16) (order colDir rowDir : Byte)
  /-- CELLS. -/
  | cells (count : BitVec 16) (packed : List Byte)
  /-- CELLS_MORE. -/
  | cellsMore (count : BitVec 16) (packed : List Byte)
  /-- CELLS_READ. -/
  | cellsRead (count : BitVec 16)
  /-- READ_MORE. -/
  | readMore (count : BitVec 16)
  /-- DESIGN_SUM. -/
  | designSum (id : Byte)
  /-- STORE_FREE. -/
  | storeFree
  /-- WEAVE_WRITE: each row is four bytes, column x in bit 31 − x of the word they make (R182). -/
  | weaveWrite (id ww wh : Byte) (rows : List (BitVec 32))
  /-- WEAVE_READ. -/
  | weaveRead (id : Byte)
  /-- COLORMAP_WRITE. -/
  | colormapWrite (design colour : Byte) (slots : Vector RawSlot 4)
  /-- COLORMAP_READ. -/
  | colormapRead (design colour : Byte)
  /-- SECTION_WRITE. -/
  | sectionWrite (index : Byte) (f c : BitVec 16) (mode hmode : Byte) (o : BitVec 16) (fixedWeave lw : Byte)
  /-- SECTION_READ. -/
  | sectionRead (index : Byte)
  /-- FLOAT_LIMITS. -/
  | floatLimits (warpLimit : Byte)
  /-- RUN_COUNTERS_READ. -/
  | runCountersRead (first count : BitVec 16)
  /-- HISTORY_READ. -/
  | historyRead (age : Byte) (first count : BitVec 16)
  /-- CHAIN_CONFIG. -/
  | chainConfig (chain modules divisor : Byte)
  /-- CHAIN_PROBE. -/
  | chainProbe (chain : Byte)
  /-- CHAIN_READ. -/
  | chainRead (chain : Byte)
  /-- FAULT_PUT: action PARK 0 or SUBSTITUTE 1, and the spare hook at its full width. -/
  | faultPut (hook : BitVec 16) (action : Byte) (spare : BitVec 16)
  /-- FAULT_REMOVE. -/
  | faultRemove (hook : BitVec 16)
  /-- FAULT_FIRST. -/
  | faultFirst
  /-- FAULT_NEXT. -/
  | faultNext
  /-- AGING_PERIOD. -/
  | agingPeriod (period : BitVec 16)
  /-- FAULT_STOP. -/
  | faultStop (threshold : Byte)
  /-- FAULT_INFO. -/
  | faultInfo (clear : Byte)
  /-- WEFT_SEQ_WRITE. -/
  | weftSeqWrite (id length : Byte) (entries : List Byte)
  /-- WEFT_MAP_WRITE. -/
  | weftMapWrite (logical primary : Byte) (alternate : OptField 8) (selection : Byte)
  /-- WEFT_READ. -/
  | weftRead (id : Byte)
  /-- DL_BAD_LENGTH_FRAME: the bytes of the frame. -/
  | dlBadLengthFrame (bytes : List Byte)
  /-- DL_BAD_CHECK_FRAME: the bytes of the frame. -/
  | dlBadCheckFrame (bytes : List Byte)
  deriving DecidableEq, Repr

end Sys2Proof
end

