-- ==== Sys2Proof/Machine/State.lean ====
section
/-! DEFINITION. The state of the part, block by block (spec/00_scope.md section 3), its value after power-on, and the reasons a
step can stop. -/

namespace Sys2Proof.Machine

/-! ### Shaft timing unit (chapter 1) -/

/-- The weaving state (R10). -/
inductive Weaving where
  | stopped | running | finding
  deriving DecidableEq, Repr

/-- The angle events (R4). -/
inductive AngleEvent where
  | compose | transfer | latch | weftRelease | weftSelect
  deriving DecidableEq, Repr

/-- An angle set: five angles and the distance DEAD (R6). -/
structure AngleSet where
  compose : Nat
  transfer : Nat
  latch : Nat
  weftRelease : Nat
  weftSelect : Nat
  dead : Nat
  deriving DecidableEq, Repr

/-- The armed flags of the angle events (R4). -/
structure Armed where
  compose : Bool
  transfer : Bool
  latch : Bool
  weftRelease : Bool
  weftSelect : Bool
  deriving DecidableEq, Repr

/-- The swap arming NONE, NEXT_PICK or NEXT_STEP (R7). -/
inductive SwapArm where
  | off | nextPick | nextStep
  deriving DecidableEq, Repr

/-- A stop mode (R13). -/
inductive StopMode where
  | immediate | synchronous
  deriving DecidableEq, Repr

/-- The stop causes, in the order of the cause codes 01h..0Ah (R184). -/
inductive Cause where
  | weftBreak | warpBreak | operator | external | patternLate | chainFault | programEnd
  | hookFault | weftExhausted | weftLate
  deriving DecidableEq, Repr

/-- The stop-mode table: a mode for each cause of the loom controller (R13). -/
structure StopModes where
  weftBreak : StopMode
  warpBreak : StopMode
  operator : StopMode
  external : StopMode
  deriving DecidableEq, Repr

/-- The last stop record (R10, R13). -/
structure LastStop where
  cause : Cause
  channel : Option Nat
  mode : StopMode
  deriving DecidableEq, Repr

/-- The sources of a sync flag, in the order of R20's table; `off` is NONE. -/
inductive SyncSource where
  | off | index | latchDone | stepOpened | stepClosed | queueLow | stopped
  deriving DecidableEq, Repr

/-- A pending wait (R22): the masked flags, ALL or ANY, clear_on_success, and the timeout in ms with whether it was clamped. -/
structure Wait where
  mask0 : Bool
  mask1 : Bool
  all : Bool
  clear : Bool
  timeout : Nat
  clamped : Bool
  deriving DecidableEq, Repr

/-- The shaft timing unit. -/
structure Stu where
  position : Fin 1024
  indexSeen : Bool
  armed : Armed
  active : AngleSet
  buffered : AngleSet
  swap : SwapArm
  weaving : Weaving
  modes : StopModes
  lastStop : Option LastStop
  sync0 : Bool
  sync1 : Bool
  source0 : SyncSource
  source1 : SyncSource
  wait : Option Wait
  deriving DecidableEq, Repr

/-! ### Program queue (chapter 2) -/

/-- Vertical or horizontal repeat (R25, R74). -/
inductive Repeat where
  | straight | point
  deriving DecidableEq, Repr

/-- The state of a step record (R25). -/
inductive StepState where
  | waiting | opened | closed
  deriving DecidableEq, Repr

/-- A step record (R25); `waiting`, `opened`, `closed` are PENDING, OPEN, CLOSED. -/
structure StepRec where
  seq : BitVec 16
  design : Nat
  rowFirst : Nat
  rowLast : Nat
  vmode : Repeat
  n : Nat
  p : Nat
  weftSeq : Nat
  tag : Option (BitVec 16)
  stopAtEnd : Bool
  rowBase : Option (BitVec 32)
  state : StepState
  deriving DecidableEq, Repr

/-- The program queue: records oldest first, the sequence counter and the low watermark. -/
structure Pq where
  steps : List StepRec
  counter : BitVec 16
  watermark : Nat
  deriving DecidableEq, Repr

/-! ### Pattern store (chapter 3) -/

/-- A present directory record (R47); blocks per row follow from the width. -/
structure Design where
  w : Nat
  h : Nat
  base : Nat
  liveEdit : Bool
  deriving DecidableEq, Repr

/-- Which of column and row the cursor moves first (R57). -/
inductive Order where
  | rowFirst | columnFirst
  deriving DecidableEq, Repr

/-- A direction of traversal (R56). -/
inductive Dir where
  | up | down
  deriving DecidableEq, Repr

/-- The window and its cursor (R56, R57). -/
structure Window where
  design : Nat
  col0 : Nat
  col1 : Nat
  row0 : Nat
  row1 : Nat
  order : Order
  colDir : Dir
  rowDir : Dir
  row : Nat
  col : Nat
  deriving DecidableEq, Repr

/-- The cells of the store in canonical form: (block × 512 + position, colour), addresses strictly rising, no colour 0; an
unlisted cell reads as colour 0 (log 4). -/
abbrev CellMem := List (Nat × Colour)

/-- The pattern store. -/
structure Ps where
  directory : Vector (Option Design) 16
  cells : CellMem
  window : Option Window
  deriving DecidableEq, Repr

/-! ### Weave and colour tables (chapter 4) -/

/-- A weave (R63): column x of a row is bit 31 − x of its word, and bits of columns at `ww` and above are 0. -/
structure Weave where
  ww : Nat
  wh : Nat
  rows : List (BitVec 32)
  deriving DecidableEq, Repr

/-- A present slot of a colour map (R68). -/
structure Slot where
  weave : Nat
  xs : Nat
  ys : Nat
  invert : Bool
  deriving DecidableEq, Repr

/-- A colour map: 16 colours by 4 slots (R68). -/
abbrev ColourMap := Vector (Vector (Option Slot) 4) 16

/-- The weave and colour tables. -/
structure Wct where
  weaves : Vector Weave 32
  maps : Vector ColourMap 16
  deriving DecidableEq, Repr

/-! ### Pick composer, float limiter, pick history (chapters 5 to 7) -/

/-- The mode of a section (R74). -/
inductive SectionMode where
  | design | fixed | parked
  deriving DecidableEq, Repr

/-- A section record (R74). -/
structure Section where
  f : Nat
  c : Nat
  mode : SectionMode
  hmode : Repeat
  o : Nat
  weave : Nat
  lw : Nat
  deriving DecidableEq, Repr

/-- A pick record (R78): G, seq, t, row, k, logical weft, physical channel, λ and the three counts. -/
structure Pick where
  g : BitVec 32
  seq : BitVec 16
  t : Nat
  row : Nat
  k : Nat
  weft : Nat
  channel : Option Nat
  lift : Lift
  forcedDown : Nat
  forcedUp : Nat
  unresolved : Nat
  deriving DecidableEq, Repr

/-- Run counters (R100): (hook, count) for the hooks whose counter is above 0, hooks strictly rising. -/
abbrev Runs := List (Nat × Nat)

/-- What a composition in flight has read so far (R82): slot k of each colour once the map is read, then the cells of the
design row for each DESIGN section whose row read is taken. -/
structure Reads where
  slots : Option (List (Option Slot))
  rows : List CellMem
  deriving DecidableEq, Repr

/-- The state of a staging record that is not EMPTY (R79); the staging run counters exist from COMPOSED on (R100). -/
inductive Phase where
  | composing (reads : Reads)
  | composed (runs : Runs)
  | transferring (runs : Runs)
  | transferred (runs : Runs)
  deriving DecidableEq, Repr

/-- A staging record that is not EMPTY. -/
structure Staging where
  pick : Pick
  phase : Phase
  deriving DecidableEq, Repr

/-- The pick composer; `marked`: the shed is marked last and is not asked about again before its LATCH (R33; log 24). -/
structure Pcm where
  sections : Vector Section 8
  staging : Option Staging
  nextPick : BitVec 32
  programEnd : Bool
  marked : Bool
  deriving DecidableEq, Repr

/-- The float limiter: Lwarp and the shed run counters. -/
structure Flm where
  lwarp : Nat
  runs : Runs
  deriving DecidableEq, Repr

/-- The re-presentation record in flight (R121): G of the shed presented and the faulty chains (bit c: chain c). -/
structure Representation where
  g : BitVec 32
  faulty : BitVec 4
  deriving DecidableEq, Repr

/-- The pick history: the shed, the ring oldest first, the origin flag, the re-presentation record. -/
structure Ph where
  shed : Option Pick
  ring : List Pick
  origin : Bool
  representing : Option Representation
  deriving DecidableEq, Repr

/-! ### Hook chain unit (chapter 8) -/

/-- The state of a chain (R127). -/
inductive ChainState where
  | disabled | unprobed | probing | active | isolated
  deriving DecidableEq, Repr

/-- The result of a chain's last probe (R127). -/
inductive ProbeResult where
  | absent | noCount | modules (n : Nat)
  deriving DecidableEq, Repr

/-- What a chain shifts for (R140). -/
inductive ShiftWork where
  | transfer | representation | probe | presentation
  deriving DecidableEq, Repr

/-- A chain's shift: its work, the drive values put into its shift path, and whether it has completed and only waits for the
strobe (R133, R136, R121). -/
structure Shift where
  work : ShiftWork
  drive : Share
  done : Bool
  deriving DecidableEq, Repr

/-- A chain record (R127). The clear line is asserted exactly while the chain is not ACTIVE (R128). -/
structure Chain where
  state : ChainState
  modules : Nat
  divisor : Nat
  image : Share
  probe : ProbeResult
  shift : Option Shift
  deriving DecidableEq, Repr

/-- The probe holding BUSY (R130, R131): its chain, and for the presentation the G presented and its mismatches. -/
structure Probe where
  chain : Fin 4
  presented : Option (BitVec 32)
  mismatches : Nat
  deriving DecidableEq, Repr

/-- The hook chain unit. -/
structure Hcu where
  chains : Vector Chain 4
  transferDue : Bool
  probing : Option Probe
  deriving DecidableEq, Repr

/-! ### Hook fault table (chapter 9) -/

/-- The sense of a mismatch (R134). -/
inductive Sense where
  | stuckUp | stuckDown
  deriving DecidableEq, Repr

/-- The action of a STATIC entry (R143). -/
inductive FaultAction where
  | park | substitute (spare : Nat)
  deriving DecidableEq, Repr

/-- LEARNED with its age flag and stop sent, or STATIC with its action (R143). -/
inductive FaultKind where
  | learned (age stopSent : Bool)
  | fixed (action : FaultAction)
  deriving DecidableEq, Repr

/-- An entry of the hook fault table (R143). -/
structure FaultEntry where
  hook : Nat
  kind : FaultKind
  count : Nat
  sense : Option Sense
  deriving DecidableEq, Repr

/-- The hook fault table: entries in ascending order of key. -/
structure Hft where
  entries : List FaultEntry
  agingCounter : Nat
  agingPeriod : Nat
  threshold : Nat
  position : Option Nat
  fullMisses : Counter
  spareMismatch : Counter
  deriving DecidableEq, Repr

/-! ### Weft selector unit (chapter 10) -/

/-- PRIMARY or ALTERNATE (R157). -/
inductive Selection where
  | primary | alternate
  deriving DecidableEq, Repr

/-- An entry of the weft map (R157). -/
structure WeftEntry where
  primary : Nat
  alternate : Option Nat
  selection : Selection
  exhausted : Bool
  deriving DecidableEq, Repr

/-- The finger state (R160); `off` is NONE. A WAITING engagement also holds whether a forward index crossing has carried it, which counts
it once (R164, log 17). -/
inductive Finger where
  | off | engaged (channel : Nat) | waiting (channel : Nat) (carried : Bool)
  deriving DecidableEq, Repr

/-- The release record (R160). -/
structure Release where
  dead : Nat
  count : Nat
  deriving DecidableEq, Repr

/-- The weft selector unit; `ready` is the channel status READY. -/
structure Wsu where
  sequences : Vector (List Nat) 16
  map : Vector WeftEntry 8
  ready : Vector Bool 8
  finger : Finger
  release : Option Release
  servedG : Option (BitVec 32)
  deriving DecidableEq, Repr

/-! ### The two links (chapters 11 and 12) -/

/-- The outcome of a response (R173). -/
inductive ReplyOutcome where
  | accept | refuse | unknown
  deriving DecidableEq, Repr

/-- The detail codes, in code order 00h..10h (R181). -/
inductive Detail where
  | plain | clamped | badCheck | badLength | badField | wrongState | noSpace | alreadyExists | notFound | inUse | locked
  | queueFull | tableFull | conflict | timeout | released | busy
  deriving DecidableEq, Repr

/-- A response (R181). -/
structure Response where
  outcome : ReplyOutcome
  kind : Byte
  detail : Detail
  payload : List Byte
  deriving DecidableEq, Repr

/-- The command that holds BUSY (R173). -/
inductive DlWork where
  | define (id : Nat) | sum (id : Nat) | probe | wait
  deriving DecidableEq, Repr

/-- The design link port: the frame receive buffer, the pending response, the work that holds BUSY, and (the MODEL's own field)
the bytes the part shifted out during the latest bracket (R171, R174, R175). -/
structure Dlp where
  frame : List Byte
  response : Option Response
  work : Option DlWork
  shiftedOut : List Byte
  deriving DecidableEq, Repr

/-- The reasons of a REFUSED message, in the order of the codes 01h..09h (R184). -/
inductive Reason where
  | wrongState | busy | notAtStart | noProgram | chainNotReady | empty | reverseLimit | badField | unknown
  deriving DecidableEq, Repr

/-- What a STATE report gives: the fields of R184 and R186, and the finger state with its channel (R160), for which R184's bytes have no
place (log 26). -/
structure StateReport where
  weaving : Weaving
  shedG : Option (BitVec 16)
  tag : Option (BitVec 16)
  channel : Option Nat
  clamped : Bool
  representing : Bool
  finger : Finger
  deriving DecidableEq, Repr

/-- The messages of the part on the loom link (R184). -/
inductive LoomMessage where
  | runAck
  | refused (kind : Byte) (reason : Reason)
  | stopRequest (cause : Cause)
  | backDone (g : BitVec 32)
  | chainFault (g : BitVec 32) (chains : BitVec 4)
  | state (report : StateReport)
  deriving DecidableEq, Repr

/-- The loom link port: receive buffer, transmit queue oldest first, and the message a soft reset took out of the queue while it
was being sent (R185, R187). -/
structure Llp where
  received : List Byte
  queue : List LoomMessage
  sending : Option LoomMessage
  deriving DecidableEq, Repr

/-! ### Event and statistics unit (chapter 12) -/

/-- The event flags, in the order of R188. -/
inductive EventFlag where
  | stepOpened | stepClosed | queueLow | programStarved | programEnd | stopped | hookLearned | faultTableFull | chainFault
  | patternLate | weftLate | weftSwitched | weftExhausted | anglesSwapped | floatUnresolved
  deriving DecidableEq, Repr

/-- Statistics group 0 (R190). -/
structure WeftStats where
  woven : Counter
  wovenCh : Vector Counter 8
  packageOut : Vector Counter 8
  weftLate : Counter
  deriving DecidableEq, Repr

/-- Statistics group 1 (R111, R190): the histogram bins, then the counts. -/
structure FloatStats where
  float1 : Counter
  float2 : Counter
  float4 : Counter
  float8 : Counter
  float16 : Counter
  float32 : Counter
  forcedDown : Counter
  forcedUp : Counter
  unresolved : Counter
  deriving DecidableEq, Repr

/-- Statistics group 2 (R141, R190). -/
structure ChainStats where
  echoMismatch : Vector Counter 4
  markerFault : Vector Counter 4
  patternLate : Counter
  deriving DecidableEq, Repr

/-- Statistics group 3 (R190). -/
structure StopStats where
  weftBreak : Counter
  warpBreak : Counter
  operator : Counter
  external : Counter
  patternLate : Counter
  chainFault : Counter
  programEnd : Counter
  starved : Counter
  deriving DecidableEq, Repr

/-- Statistics group 4 (R190). -/
structure LinkStats where
  linkErrors : Counter
  llUnknown : Counter
  llTxDropped : Counter
  encoderSlip : Counter
  dlBadLength : Counter
  dlBadCheck : Counter
  dlUnknown : Counter
  dlBusyDiscard : Counter
  dlLostResponse : Counter
  deriving DecidableEq, Repr

/-- The event and statistics unit: flags and mask (bit order of R188), the three details, the five groups. -/
structure Evs where
  flags : BitVec 15
  mask : BitVec 15
  opened : Option (BitVec 16 × Option (BitVec 16))
  learned : Option (Nat × Sense)
  switched : Option (Nat × Nat)
  weft : WeftStats
  floats : FloatStats
  chains : ChainStats
  stops : StopStats
  link : LinkStats
  deriving DecidableEq, Repr

/-! ### The whole part -/

/-- The part: its thirteen blocks, then the MODEL's own fields, the counter the free values are applied to and the queue of
commands that wait. -/
structure State where
  stu : Stu
  pq : Pq
  ps : Ps
  wct : Wct
  pcm : Pcm
  flm : Flm
  ph : Ph
  hcu : Hcu
  hft : Hft
  wsu : Wsu
  dlp : Dlp
  llp : Llp
  evs : Evs
  free : Nat
  pending : List Instr
  deriving DecidableEq, Repr

/-- Faults of the part: none. Every command has an effect in every state, so no meaning raises a fault. -/
inductive Fault where
  deriving DecidableEq, Repr

/-- Refusals of a step. -/
inductive Refusal where
  /-- Raised by `exec` alone, for a command without a meaning yet: safe. No arm raises it now. -/
  | notModelled (mnemonic : String)
  deriving DecidableEq, Repr

/-! ### Values after power-on -/

/-- The default angle set (R6). -/
def AngleSet.default : AngleSet :=
  { compose := 64, transfer := 320, latch := 768, weftRelease := 640, weftSelect := 800, dead := 32 }

/-- The default stop-mode table (R13). -/
def StopModes.default : StopModes :=
  { weftBreak := .immediate, warpBreak := .synchronous, operator := .synchronous, external := .immediate }

/-- Section 1.6. -/
def Stu.powerOn : Stu :=
  { position := 0, indexSeen := false, armed := ⟨true, true, true, true, true⟩, active := .default, buffered := .default,
    swap := .off, weaving := .stopped, modes := .default, lastStop := none, sync0 := false, sync1 := false,
    source0 := .off, source1 := .off, wait := none }

/-- R45, R31. -/
def Pq.powerOn : Pq := { steps := [], counter := 0#16, watermark := 2 }

/-- Section 3.7; the unknown cell contents read as colour 0 until a define clears them (log 4). -/
def Ps.powerOn : Ps := { directory := Vector.replicate 16 none, cells := [], window := none }

/-- The 1 × 1 weave with bit 0 (R63). -/
def Weave.powerOn : Weave := { ww := 1, wh := 1, rows := [0#32] }

/-- A colour map with every slot absent (R68). -/
def ColourMap.empty : ColourMap := Vector.replicate 16 (Vector.replicate 4 none)

/-- Section 4.5. -/
def Wct.powerOn : Wct := { weaves := Vector.replicate 32 .powerOn, maps := Vector.replicate 16 .empty }

/-- The unused section (R74). -/
def Section.powerOn : Section := { f := 0, c := 0, mode := .parked, hmode := .straight, o := 0, weave := 0, lw := 0 }

/-- R97. -/
def Pcm.powerOn : Pcm :=
  { sections := Vector.replicate 8 .powerOn, staging := none, nextPick := 0#32, programEnd := false, marked := false }

/-- Section 6.6. -/
def Flm.powerOn : Flm := { lwarp := 0, runs := [] }

/-- R126. -/
def Ph.powerOn : Ph := { shed := none, ring := [], origin := true, representing := none }

/-- R142: a chain after power-on. -/
def Chain.powerOn : Chain :=
  { state := .disabled, modules := 0, divisor := 8, image := 0#3072, probe := .absent, shift := none }

/-- R142. -/
def Hcu.powerOn : Hcu := { chains := Vector.replicate 4 .powerOn, transferDue := false, probing := none }

/-- R155. -/
def Hft.powerOn : Hft :=
  { entries := [], agingCounter := 0, agingPeriod := 4096, threshold := 8, position := none, fullMisses := 0#32, spareMismatch := 0#32 }

/-- R170: the map entry of logical weft `w`. -/
def WeftEntry.powerOn (w : Nat) : WeftEntry := { primary := w, alternate := none, selection := .primary, exhausted := false }

/-- R170. -/
def Wsu.powerOn : Wsu :=
  { sequences := Vector.replicate 16 [0], map := tabMap (fun w _ => WeftEntry.powerOn w) (Vector.replicate 8 ()),
    ready := Vector.replicate 8 true, finger := .off, release := none, servedG := none }

/-- R175. -/
def Dlp.powerOn : Dlp := { frame := [], response := none, work := none, shiftedOut := [] }

/-- R191. -/
def Llp.powerOn : Llp := { received := [], queue := [], sending := none }

/-- Statistics group 0 at 0. -/
def WeftStats.zero : WeftStats :=
  { woven := 0#32, wovenCh := Vector.replicate 8 0#32, packageOut := Vector.replicate 8 0#32, weftLate := 0#32 }

/-- Statistics group 1 at 0. -/
def FloatStats.zero : FloatStats := ⟨0#32, 0#32, 0#32, 0#32, 0#32, 0#32, 0#32, 0#32, 0#32⟩

/-- Statistics group 2 at 0. -/
def ChainStats.zero : ChainStats :=
  { echoMismatch := Vector.replicate 4 0#32, markerFault := Vector.replicate 4 0#32, patternLate := 0#32 }

/-- Statistics group 3 at 0. -/
def StopStats.zero : StopStats := ⟨0#32, 0#32, 0#32, 0#32, 0#32, 0#32, 0#32, 0#32⟩

/-- Statistics group 4 at 0. -/
def LinkStats.zero : LinkStats := ⟨0#32, 0#32, 0#32, 0#32, 0#32, 0#32, 0#32, 0#32, 0#32⟩

/-- R191. -/
def Evs.powerOn : Evs :=
  { flags := 0#15, mask := 0#15, opened := none, learned := none, switched := none, weft := .zero, floats := .zero,
    chains := .zero, stops := .zero, link := .zero }

/-- The part after power-on, with no command waiting. -/
def State.reset : State :=
  { stu := .powerOn, pq := .powerOn, ps := .powerOn, wct := .powerOn, pcm := .powerOn, flm := .powerOn, ph := .powerOn,
    hcu := .powerOn, hft := .powerOn, wsu := .powerOn, dlp := .powerOn, llp := .powerOn, evs := .powerOn, free := 0, pending := [] }

end Sys2Proof.Machine
end

