-- ==== Sys2Proof/Machine/Flags.lean ====
section
/-! DEFINITION. Event flags, ATTN and statistics counters (sections 12.3 and 12.4). -/

namespace Sys2Proof.Machine

/-- The bit of a flag in every event mask (R188). -/
def EventFlag.index : EventFlag → Nat
  | .stepOpened => 0 | .stepClosed => 1 | .queueLow => 2 | .programStarved => 3 | .programEnd => 4
  | .stopped => 5 | .hookLearned => 6 | .faultTableFull => 7 | .chainFault => 8 | .patternLate => 9
  | .weftLate => 10 | .weftSwitched => 11 | .weftExhausted => 12 | .anglesSwapped => 13 | .floatUnresolved => 14

/-- The event mask of one flag. -/
def EventFlag.bit (f : EventFlag) : BitVec 15 := 1#15 <<< f.index

/-- A flag is raised: it is set, or stays set (R188). -/
def State.raise (s : State) (f : EventFlag) : State := { s with evs.flags := s.evs.flags ||| f.bit }

/-- Whether a flag is set. -/
def State.flag (s : State) (f : EventFlag) : Bool := s.evs.flags.getLsbD f.index

/-- The ATTN line: high while a flag is set and unmasked (R189). -/
def State.attn (s : State) : Bool := decide (s.evs.flags &&& ~~~s.evs.mask ≠ 0#15)

/-- A counter after counting `k`: it saturates at 4,294,967,295 (R190). -/
def satAdd (c : Counter) (k : Nat) : Counter := BitVec.ofNat 32 (min (c.toNat + k) 4294967295)

/-- A counter after counting one. -/
def bump (c : Counter) : Counter := satAdd c 1

/-- A table of counters after counting `k` in entry `i`. -/
def countAt {n : Nat} (v : Vector Counter n) (i k : Nat) : Vector Counter n := tabSet v i (satAdd (tabGet v i 0#32) k)

/-- The stops group after counting a stop taken for a cause; requested stops are not counted (R13, R18, R19). -/
def StopStats.count (x : StopStats) : Cause → StopStats
  | .weftBreak => { x with weftBreak := bump x.weftBreak }
  | .warpBreak => { x with warpBreak := bump x.warpBreak }
  | .operator => { x with operator := bump x.operator }
  | .external => { x with external := bump x.external }
  | .patternLate => { x with patternLate := bump x.patternLate }
  | .chainFault => { x with chainFault := bump x.chainFault }
  | .programEnd => { x with programEnd := bump x.programEnd }
  | .hookFault => x
  | .weftExhausted => x
  | .weftLate => x

/-- A warp float of length `n` above 0 is counted in the bin of its length (R104). -/
def FloatStats.countFloat (x : FloatStats) (n : Nat) : FloatStats :=
  if n ≤ 1 then { x with float1 := bump x.float1 }
  else if n ≤ 3 then { x with float2 := bump x.float2 }
  else if n ≤ 7 then { x with float4 := bump x.float4 }
  else if n ≤ 15 then { x with float8 := bump x.float8 }
  else if n ≤ 31 then { x with float16 := bump x.float16 }
  else { x with float32 := bump x.float32 }

/-- The counters of each group in the order of R190's table. -/
def WeftStats.list (x : WeftStats) : List Counter := x.woven :: (x.wovenCh.toList ++ x.packageOut.toList ++ [x.weftLate])

/-- Group 1 in order. -/
def FloatStats.list (x : FloatStats) : List Counter :=
  [x.float1, x.float2, x.float4, x.float8, x.float16, x.float32, x.forcedDown, x.forcedUp, x.unresolved]

/-- Group 2 in order. -/
def ChainStats.list (x : ChainStats) : List Counter := x.echoMismatch.toList ++ x.markerFault.toList ++ [x.patternLate]

/-- Group 3 in order. -/
def StopStats.list (x : StopStats) : List Counter :=
  [x.weftBreak, x.warpBreak, x.operator, x.external, x.patternLate, x.chainFault, x.programEnd, x.starved]

/-- Group 4 in order. -/
def LinkStats.list (x : LinkStats) : List Counter :=
  [x.linkErrors, x.llUnknown, x.llTxDropped, x.encoderSlip, x.dlBadLength, x.dlBadCheck, x.dlUnknown, x.dlBusyDiscard,
    x.dlLostResponse]

end Sys2Proof.Machine
end

