-- ==== Sys2Proof/Decode.lean ====
section
/-! DEFINITION. Frames of the design link (R179, R180, R182, R183): the bytes of a command, the command of some bytes. Also the
host's question about table words, which this part's table has none of. -/

namespace Sys2Proof

/-- A 2-byte field, most significant byte first (R179). -/
def bytes16 (x : BitVec 16) : List Byte := [x.extractLsb' 8 8, x.extractLsb' 0 8]

/-- A 4-byte field, most significant byte first (R179). -/
def bytes32 (x : BitVec 32) : List Byte :=
  [x.extractLsb' 24 8, x.extractLsb' 16 8, x.extractLsb' 8 8, x.extractLsb' 0 8]

/-- The 2-byte number of its two bytes. -/
def word16 (a b : Byte) : BitVec 16 := a ++ b

/-- The 4-byte number of its four bytes. -/
def word32 (a b c d : Byte) : BitVec 32 := a ++ b ++ (c ++ d)

/-- An optional 1-byte field (R179). -/
def OptField.bytes8 (o : OptField 8) : List Byte := [o.present, o.value]

/-- An optional 2-byte field (R179). -/
def OptField.bytes16 (o : OptField 16) : List Byte := o.present :: Sys2Proof.bytes16 o.value

/-- One entry of a slots field (R71, R179). -/
def RawSlot.bytes (r : RawSlot) : List Byte := [r.present, r.weave, r.xs, r.ys, r.invert]

/-- The rows field of WEAVE_WRITE: four bytes for each row (R182). -/
def rowBytes (rows : List (BitVec 32)) : List Byte := rows.flatMap bytes32

/-- The rows of a rows field; none when its length is no multiple of four. -/
def rowsOf : List Byte → Option (List (BitVec 32))
  | [] => some []
  | a :: b :: c :: d :: rest => (rowsOf rest).map fun rows => word32 a b c d :: rows
  | _ => none

/-- The kind code of a design link command (R183); none for the rows that are no such command. -/
def commandCode : Instr → Option Byte
  | .statusRead => some 0x01#8
  | .softReset => some 0x02#8
  | .eventsRead => some 0x03#8
  | .eventsClear .. => some 0x04#8
  | .eventsMask .. => some 0x05#8
  | .statsRead .. => some 0x06#8
  | .statsClear .. => some 0x07#8
  | .anglesWrite .. => some 0x10#8
  | .anglesArm .. => some 0x11#8
  | .anglesRead => some 0x12#8
  | .stopModeWrite .. => some 0x13#8
  | .syncSource .. => some 0x14#8
  | .syncSet .. => some 0x15#8
  | .syncClear .. => some 0x16#8
  | .waitSync .. => some 0x17#8
  | .stepAppend .. => some 0x20#8
  | .stepCut .. => some 0x21#8
  | .queueRead .. => some 0x22#8
  | .queueWatermark .. => some 0x23#8
  | .designDefine .. => some 0x30#8
  | .designDelete .. => some 0x31#8
  | .designInfo .. => some 0x32#8
  | .designWindow .. => some 0x33#8
  | .cells .. => some 0x34#8
  | .cellsMore .. => some 0x35#8
  | .cellsRead .. => some 0x36#8
  | .readMore .. => some 0x37#8
  | .designSum .. => some 0x38#8
  | .storeFree => some 0x39#8
  | .weaveWrite .. => some 0x40#8
  | .weaveRead .. => some 0x41#8
  | .colormapWrite .. => some 0x42#8
  | .colormapRead .. => some 0x43#8
  | .sectionWrite .. => some 0x50#8
  | .sectionRead .. => some 0x51#8
  | .floatLimits .. => some 0x52#8
  | .runCountersRead .. => some 0x53#8
  | .historyRead .. => some 0x54#8
  | .chainConfig .. => some 0x60#8
  | .chainProbe .. => some 0x61#8
  | .chainRead .. => some 0x62#8
  | .faultPut .. => some 0x70#8
  | .faultRemove .. => some 0x71#8
  | .faultFirst => some 0x72#8
  | .faultNext => some 0x73#8
  | .agingPeriod .. => some 0x74#8
  | .faultStop .. => some 0x75#8
  | .faultInfo .. => some 0x76#8
  | .weftSeqWrite .. => some 0x80#8
  | .weftMapWrite .. => some 0x81#8
  | .weftRead .. => some 0x82#8
  | .powerOn .. => none
  | .forwardStep .. => none
  | .backwardStep .. => none
  | .illegalTransition .. => none
  | .forwardIndexCrossing .. => none
  | .backwardIndexCrossing .. => none
  | .deadTimeComplete .. => none
  | .compositionEnd .. => none
  | .chainShiftComplete .. => none
  | .agingPass .. => none
  | .waitTimeout .. => none
  | .defineClearDone .. => none
  | .sumDone .. => none
  | .probeCountEnd .. => none
  | .run .. => none
  | .stop .. => none
  | .find .. => none
  | .pickBack .. => none
  | .packageOut .. => none
  | .packageReady .. => none
  | .releaseWait .. => none
  | .statusAsk .. => none
  | .llMessageBadCheck .. => none
  | .llUnknownKind .. => none
  | .llFramingError .. => none
  | .llByteGap .. => none
  | .llMessageSent .. => none
  | .responseRead .. => none
  | .busyDiscard .. => none
  | .dlUnknownFrame .. => none
  | .dlBadLengthFrame .. => none
  | .dlBadCheckFrame .. => none

/-- The payload of a design link command: its fields in the order its rule names them (R179). -/
def payloadOf : Instr → List Byte
  | .statusRead => []
  | .softReset => []
  | .eventsRead => []
  | .eventsClear mask => bytes16 mask
  | .eventsMask mask => bytes16 mask
  | .statsRead group => [group]
  | .statsClear group => [group]
  | .anglesWrite co tr la wr ws dead => bytes16 co ++ bytes16 tr ++ bytes16 la ++ bytes16 wr ++ bytes16 ws ++ [dead]
  | .anglesArm mode => [mode]
  | .anglesRead => []
  | .stopModeWrite cause mode => [cause] ++ [mode]
  | .syncSource flag source => [flag] ++ [source]
  | .syncSet mask => [mask]
  | .syncClear mask => [mask]
  | .waitSync mask comb clear timeout => [mask] ++ [comb] ++ [clear] ++ bytes16 timeout
  | .stepAppend design r0 r1 vmode n p weftSeq tag stop => [design] ++ bytes16 r0 ++ bytes16 r1 ++ [vmode] ++ bytes16 n ++ [p] ++ [weftSeq] ++ tag.bytes16 ++ [stop]
  | .stepCut seq => bytes16 seq
  | .queueRead index => [index]
  | .queueWatermark value => [value]
  | .designDefine id w h live => [id] ++ bytes16 w ++ bytes16 h ++ [live]
  | .designDelete id => [id]
  | .designInfo id => [id]
  | .designWindow id c0 c1 r0 r1 order cd rd => [id] ++ bytes16 c0 ++ bytes16 c1 ++ bytes16 r0 ++ bytes16 r1 ++ [order] ++ [cd] ++ [rd]
  | .cells count packed => bytes16 count ++ packed
  | .cellsMore count packed => bytes16 count ++ packed
  | .cellsRead count => bytes16 count
  | .readMore count => bytes16 count
  | .designSum id => [id]
  | .storeFree => []
  | .weaveWrite id ww wh rows => [id] ++ [ww] ++ [wh] ++ rowBytes rows
  | .weaveRead id => [id]
  | .colormapWrite design colour slots => [design] ++ [colour] ++ slots.toList.flatMap RawSlot.bytes
  | .colormapRead design colour => [design] ++ [colour]
  | .sectionWrite index f c mode hmode o fw lw => [index] ++ bytes16 f ++ bytes16 c ++ [mode] ++ [hmode] ++ bytes16 o ++ [fw] ++ [lw]
  | .sectionRead index => [index]
  | .floatLimits limit => [limit]
  | .runCountersRead first count => bytes16 first ++ bytes16 count
  | .historyRead age first count => [age] ++ bytes16 first ++ bytes16 count
  | .chainConfig chain modules divisor => [chain] ++ [modules] ++ [divisor]
  | .chainProbe chain => [chain]
  | .chainRead chain => [chain]
  | .faultPut hook action spare => bytes16 hook ++ [action] ++ bytes16 spare
  | .faultRemove hook => bytes16 hook
  | .faultFirst => []
  | .faultNext => []
  | .agingPeriod period => bytes16 period
  | .faultStop threshold => [threshold]
  | .faultInfo clear => [clear]
  | .weftSeqWrite id length entries => [id] ++ [length] ++ entries
  | .weftMapWrite logical primary alt sel => [logical] ++ [primary] ++ alt.bytes8 ++ [sel]
  | .weftRead id => [id]
  | .powerOn .. => []
  | .forwardStep .. => []
  | .backwardStep .. => []
  | .illegalTransition .. => []
  | .forwardIndexCrossing .. => []
  | .backwardIndexCrossing .. => []
  | .deadTimeComplete .. => []
  | .compositionEnd .. => []
  | .chainShiftComplete .. => []
  | .agingPass .. => []
  | .waitTimeout .. => []
  | .defineClearDone .. => []
  | .sumDone .. => []
  | .probeCountEnd .. => []
  | .run .. => []
  | .stop .. => []
  | .find .. => []
  | .pickBack .. => []
  | .packageOut .. => []
  | .packageReady .. => []
  | .releaseWait .. => []
  | .statusAsk .. => []
  | .llMessageBadCheck .. => []
  | .llUnknownKind .. => []
  | .llFramingError .. => []
  | .llByteGap .. => []
  | .llMessageSent .. => []
  | .responseRead .. => []
  | .busyDiscard .. => []
  | .dlUnknownFrame .. => []
  | .dlBadLengthFrame .. => []
  | .dlBadCheckFrame .. => []

/-- The sum of some bytes modulo 65536: the check of the design link's frames (R180, R181). -/
def checkSum (bytes : List Byte) : BitVec 16 := BitVec.ofNat 16 (bytes.foldl (fun n b => n + b.toNat) 0)

/-- Kind, payload length and payload of a command frame: the bytes its check sums (R180). -/
def frameBody (kind : Byte) (payload : List Byte) : List Byte :=
  kind :: bytes16 (BitVec.ofNat 16 payload.length) ++ payload

/-- The bytes of the frame of a design link command (R180); no bytes for the rows that are no such command. -/
def frameOf (i : Instr) : List Byte :=
  match commandCode i with
  | some kind => frameBody kind (payloadOf i) ++ bytes16 (checkSum (frameBody kind (payloadOf i)))
  | none => []

/-- The kind codes of R183. -/
def isCommandCode (kind : Byte) : Bool :=
  let k := kind.toNat
  (1 ≤ k && k ≤ 7) || (0x10 ≤ k && k ≤ 0x17) || (0x20 ≤ k && k ≤ 0x23) || (0x30 ≤ k && k ≤ 0x39) || (0x40 ≤ k && k ≤ 0x43) ||
    (0x50 ≤ k && k ≤ 0x54) || (0x60 ≤ k && k ≤ 0x62) || (0x70 ≤ k && k ≤ 0x76) || (0x80 ≤ k && k ≤ 0x82)

/-- The command of a kind code and a payload; none when the payload's length is not the one R179 gives for its fields. The
length of a varying list is left to the command, which knows its count. -/
def parseCommand (kind : Byte) (payload : List Byte) : Option Instr :=
  match kind.toNat, payload with
  | 0x01, [] => some .statusRead
  | 0x02, [] => some .softReset
  | 0x03, [] => some .eventsRead
  | 0x04, [b0, b1] => some (.eventsClear (word16 b0 b1))
  | 0x05, [b0, b1] => some (.eventsMask (word16 b0 b1))
  | 0x06, [b0] => some (.statsRead b0)
  | 0x07, [b0] => some (.statsClear b0)
  | 0x10, [b0, b1, b2, b3, b4, b5, b6, b7, b8, b9, b10] => some (.anglesWrite (word16 b0 b1) (word16 b2 b3) (word16 b4 b5) (word16 b6 b7) (word16 b8 b9) b10)
  | 0x11, [b0] => some (.anglesArm b0)
  | 0x12, [] => some .anglesRead
  | 0x13, [b0, b1] => some (.stopModeWrite b0 b1)
  | 0x14, [b0, b1] => some (.syncSource b0 b1)
  | 0x15, [b0] => some (.syncSet b0)
  | 0x16, [b0] => some (.syncClear b0)
  | 0x17, [b0, b1, b2, b3, b4] => some (.waitSync b0 b1 b2 (word16 b3 b4))
  | 0x20, [b0, b1, b2, b3, b4, b5, b6, b7, b8, b9, b10, b11, b12, b13] => some (.stepAppend b0 (word16 b1 b2) (word16 b3 b4) b5 (word16 b6 b7) b8 b9 ⟨b10, word16 b11 b12⟩ b13)
  | 0x21, [b0, b1] => some (.stepCut (word16 b0 b1))
  | 0x22, [b0] => some (.queueRead b0)
  | 0x23, [b0] => some (.queueWatermark b0)
  | 0x30, [b0, b1, b2, b3, b4, b5] => some (.designDefine b0 (word16 b1 b2) (word16 b3 b4) b5)
  | 0x31, [b0] => some (.designDelete b0)
  | 0x32, [b0] => some (.designInfo b0)
  | 0x33, [b0, b1, b2, b3, b4, b5, b6, b7, b8, b9, b10, b11] => some (.designWindow b0 (word16 b1 b2) (word16 b3 b4) (word16 b5 b6) (word16 b7 b8) b9 b10 b11)
  | 0x34, b0 :: b1 :: packed => some (.cells (word16 b0 b1) packed)
  | 0x35, b0 :: b1 :: packed => some (.cellsMore (word16 b0 b1) packed)
  | 0x36, [b0, b1] => some (.cellsRead (word16 b0 b1))
  | 0x37, [b0, b1] => some (.readMore (word16 b0 b1))
  | 0x38, [b0] => some (.designSum b0)
  | 0x39, [] => some .storeFree
  | 0x40, b0 :: b1 :: b2 :: rest => (rowsOf rest).map fun rows => .weaveWrite b0 b1 b2 rows
  | 0x41, [b0] => some (.weaveRead b0)
  | 0x42, [b0, b1, b2, b3, b4, b5, b6, b7, b8, b9, b10, b11, b12, b13, b14, b15, b16, b17, b18, b19, b20, b21] => some (.colormapWrite b0 b1 #v[⟨b2, b3, b4, b5, b6⟩, ⟨b7, b8, b9, b10, b11⟩, ⟨b12, b13, b14, b15, b16⟩, ⟨b17, b18, b19, b20, b21⟩])
  | 0x43, [b0, b1] => some (.colormapRead b0 b1)
  | 0x50, [b0, b1, b2, b3, b4, b5, b6, b7, b8, b9, b10] => some (.sectionWrite b0 (word16 b1 b2) (word16 b3 b4) b5 b6 (word16 b7 b8) b9 b10)
  | 0x51, [b0] => some (.sectionRead b0)
  | 0x52, [b0] => some (.floatLimits b0)
  | 0x53, [b0, b1, b2, b3] => some (.runCountersRead (word16 b0 b1) (word16 b2 b3))
  | 0x54, [b0, b1, b2, b3, b4] => some (.historyRead b0 (word16 b1 b2) (word16 b3 b4))
  | 0x60, [b0, b1, b2] => some (.chainConfig b0 b1 b2)
  | 0x61, [b0] => some (.chainProbe b0)
  | 0x62, [b0] => some (.chainRead b0)
  | 0x70, [b0, b1, b2, b3, b4] => some (.faultPut (word16 b0 b1) b2 (word16 b3 b4))
  | 0x71, [b0, b1] => some (.faultRemove (word16 b0 b1))
  | 0x72, [] => some .faultFirst
  | 0x73, [] => some .faultNext
  | 0x74, [b0, b1] => some (.agingPeriod (word16 b0 b1))
  | 0x75, [b0] => some (.faultStop b0)
  | 0x76, [b0] => some (.faultInfo b0)
  | 0x80, b0 :: b1 :: entries => some (.weftSeqWrite b0 b1 entries)
  | 0x81, [b0, b1, b2, b3, b4] => some (.weftMapWrite b0 b1 ⟨b2, b3⟩ b4)
  | 0x82, [b0] => some (.weftRead b0)
  | _, _ => none

/-- Why a frame is not passed to a block (R172), in the order of the tests. -/
inductive FrameFault where
  | badLength
  | badCheck
  | unknownKind
  deriving DecidableEq, Repr

/-- The length field of a frame's bytes (R180). -/
def frameLength : List Byte → Nat
  | _ :: hi :: lo :: _ => (word16 hi lo).toNat
  | _ => 0

/-- The tests of R172 on all the bytes of a command frame: the first that fails, or the kind and payload. -/
def testFrame (bytes : List Byte) : Except FrameFault (Byte × List Byte) :=
  let n := frameLength bytes
  if bytes.length < 5 ∨ 1030 < n ∨ bytes.length ≠ n + 5 then .error .badLength
  else if bytes16 (checkSum (bytes.take (n + 3))) ≠ bytes.drop (n + 3) then .error .badCheck
  else
    let kind := bytes.headD 0#8
    if isCommandCode kind then .ok (kind, (bytes.drop 3).take n) else .error .unknownKind

/-- The command that a frame's bytes spell, by the layouts of R180 and R183. -/
def parseFrame (bytes : List Byte) : Option Instr :=
  match testFrame bytes with
  | .ok (kind, payload) => parseCommand kind payload
  | .error _ => none

/-- The command that a table word spells: no row of spec/opcode_table.json gives bits, so no word spells one. -/
def decodeTableWord (_nbits _w : Nat) : Option Instr := none

end Sys2Proof
end

