-- ==== Sys2Proof/Machine/Operands.lean ====
section
/-! DEFINITION. The operand forms of the two links: enumerations, flags, masks and optional fields read from bytes (none where
R179 gives the value no meaning), and the bytes of the fields of responses. -/

namespace Sys2Proof.Machine

/-! ### Fields of commands -/

/-- A flag byte: 1 set, 0 clear (R179). -/
def flagOf (b : Byte) : Option Bool := if b = 0#8 then some false else if b = 1#8 then some true else none

/-- The presence byte and value of an optional field; the value bytes of an absent field are not looked at (log 5). -/
def optOf {w : Nat} (o : OptField w) : Option (Option (BitVec w)) :=
  (flagOf o.present).map fun p => if p then some o.value else none

/-- STRAIGHT 0, POINT 1 (R25, R74). -/
def repeatOf (b : Byte) : Option Repeat := if b = 0#8 then some .straight else if b = 1#8 then some .point else none

/-- ROW_FIRST 0, COLUMN_FIRST 1 (R56). -/
def orderOf (b : Byte) : Option Order := if b = 0#8 then some .rowFirst else if b = 1#8 then some .columnFirst else none

/-- UP 0, DOWN 1 (R56). -/
def dirOf (b : Byte) : Option Dir := if b = 0#8 then some .up else if b = 1#8 then some .down else none

/-- DESIGN 0, FIXED 1, PARKED 2 (R74). -/
def sectionModeOf (b : Byte) : Option SectionMode :=
  if b = 0#8 then some .design else if b = 1#8 then some .fixed else if b = 2#8 then some .parked else none

/-- NONE 0, NEXT_PICK 1, NEXT_STEP 2 (R7). -/
def swapArmOf (b : Byte) : Option SwapArm :=
  if b = 0#8 then some .off else if b = 1#8 then some .nextPick else if b = 2#8 then some .nextStep else none

/-- IMMEDIATE 0, SYNCHRONOUS 1 (R13). -/
def stopModeOf (b : Byte) : Option StopMode :=
  if b = 0#8 then some .immediate else if b = 1#8 then some .synchronous else none

/-- The causes the loom controller sends, 01h..04h (R184). -/
def loomCauseOf (b : Byte) : Option Cause :=
  if b = 1#8 then some .weftBreak else if b = 2#8 then some .warpBreak
  else if b = 3#8 then some .operator else if b = 4#8 then some .external else none

/-- The sync sources, coded in the order of R20's table. -/
def syncSourceOf (b : Byte) : Option SyncSource :=
  match b.toNat with
  | 0 => some .off | 1 => some .index | 2 => some .latchDone | 3 => some .stepOpened | 4 => some .stepClosed
  | 5 => some .queueLow | 6 => some .stopped | _ => none

/-- PARK 0, SUBSTITUTE 1 with the spare hook (R143, R150; log 6). -/
def faultActionOf (action : Byte) (spare : BitVec 16) : Option FaultAction :=
  if action = 0#8 then some .park else if action = 1#8 then some (.substitute spare.toNat) else none

/-- PRIMARY 0, ALTERNATE 1 (R157). -/
def selectionOf (b : Byte) : Option Selection := if b = 0#8 then some .primary else if b = 1#8 then some .alternate else none

/-- ALL 0, ANY 1 (R22): whether the combination is ALL. -/
def combinationOf (b : Byte) : Option Bool := if b = 0#8 then some true else if b = 1#8 then some false else none

/-- A sync mask: bit 0 SYNC0, bit 1 SYNC1, no other bit (R179). -/
def syncMaskOf (b : Byte) : Option (Bool × Bool) := if b.toNat < 4 then some (b.getLsbD 0, b.getLsbD 1) else none

/-- An event mask of two bytes, bit 15 clear (R179). -/
def eventMaskOf (m : BitVec 16) : Option (BitVec 15) := if m.getLsbD 15 then none else some (m.extractLsb' 0 15)

/-- One entry of a slots field: absent, or present with every field in its range (R71). -/
def slotOf (r : RawSlot) : Option (Option Slot) :=
  if r.present = 0#8 then some none
  else if r.present = 1#8 ∧ r.weave.toNat < 32 ∧ r.xs.toNat < 32 ∧ r.ys.toNat < 32 then
    (flagOf r.invert).map fun i => some { weave := r.weave.toNat, xs := r.xs.toNat, ys := r.ys.toNat, invert := i }
  else none

/-- The four entries of a slots field; none when one of them is out of its range. -/
def slotsOf (v : Vector RawSlot 4) : Option (Vector (Option Slot) 4) :=
  match slotOf v[0], slotOf v[1], slotOf v[2], slotOf v[3] with
  | some a, some b, some c, some d => some #v[a, b, c, d]
  | _, _, _, _ => none

/-- The cells packed two to a byte, the first in the high nibble; the low nibble of an odd count's last byte is not used (R182). -/
def unpackCells (count : Nat) (packed : List Byte) : List Colour :=
  (packed.flatMap fun b => [b.extractLsb' 4 4, b.extractLsb' 0 4]).take count

/-- ceil(count / 2). -/
def packedLength (count : Nat) : Nat := (count + 1) / 2

/-! ### Fields of responses (R179) -/

/-- A 1-byte number. -/
def u8 (n : Nat) : List Byte := [BitVec.ofNat 8 n]
/-- A 2-byte number. -/
def u16 (n : Nat) : List Byte := bytes16 (BitVec.ofNat 16 n)
/-- A 4-byte number. -/
def u32 (n : Nat) : List Byte := bytes32 (BitVec.ofNat 32 n)
/-- A flag. -/
def uFlag (b : Bool) : List Byte := [if b then 1#8 else 0#8]
/-- An optional field of `width` bytes: presence byte, then the field, all zero when absent. -/
def uOpt {α : Type} (width : Nat) (f : α → List Byte) : Option α → List Byte
  | some x => 1#8 :: f x
  | none => List.replicate (width + 1) 0#8

/-- Cells packed two to a byte, 0 in the low nibble that an odd count leaves (R182). -/
def packCells : List Colour → List Byte
  | a :: b :: rest => (a ++ b : BitVec 8) :: packCells rest
  | [a] => [(a ++ 0#4 : BitVec 8)]
  | [] => []

/-- Lift values packed eight hooks to a byte, the lowest hook in bit 7 (R182). The low bits that a last byte does not need are 0 (DESIGN
CHOICE, log 11). -/
def packLift (l : Lift) (first count : Nat) : List Byte :=
  (List.range ((count + 7) / 8)).map fun i =>
    (List.range 8).foldl
      (fun b j => if 8 * i + j < count ∧ l.getLsbD (first + 8 * i + j) then b ||| 1#8 <<< (7 - j) else b) 0#8

/-- The weaving state: 0 STOPPED, 1 RUNNING, 2 FINDING (R179). -/
def Weaving.code : Weaving → Nat
  | .stopped => 0 | .running => 1 | .finding => 2
/-- A cause code (R184). -/
def Cause.code : Cause → Nat
  | .weftBreak => 1 | .warpBreak => 2 | .operator => 3 | .external => 4 | .patternLate => 5 | .chainFault => 6
  | .programEnd => 7 | .hookFault => 8 | .weftExhausted => 9 | .weftLate => 10
/-- IMMEDIATE 0, SYNCHRONOUS 1. -/
def StopMode.code : StopMode → Nat
  | .immediate => 0 | .synchronous => 1
/-- NONE 0, NEXT_PICK 1, NEXT_STEP 2. -/
def SwapArm.code : SwapArm → Nat
  | .off => 0 | .nextPick => 1 | .nextStep => 2
/-- STRAIGHT 0, POINT 1. -/
def Repeat.code : Repeat → Nat
  | .straight => 0 | .point => 1
/-- PENDING 0, OPEN 1, CLOSED 2 (R25). -/
def StepState.code : StepState → Nat
  | .waiting => 0 | .opened => 1 | .closed => 2
/-- DESIGN 0, FIXED 1, PARKED 2. -/
def SectionMode.code : SectionMode → Nat
  | .design => 0 | .fixed => 1 | .parked => 2
/-- The staging state: EMPTY 0, COMPOSING 1, COMPOSED 2, TRANSFERRING 3, TRANSFERRED 4 (R78). -/
def stagingCode : Option Staging → Nat
  | none => 0
  | some st => match st.phase with
    | .composing _ => 1 | .composed _ => 2 | .transferring _ => 3 | .transferred _ => 4
/-- DISABLED 0, UNPROBED 1, PROBING 2, ACTIVE 3, ISOLATED 4 (R127). -/
def ChainState.code : ChainState → Nat
  | .disabled => 0 | .unprobed => 1 | .probing => 2 | .active => 3 | .isolated => 4
/-- A probe result: the module count, FEh for NONE, FFh for absent (R179). -/
def ProbeResult.code : ProbeResult → Nat
  | .modules n => n | .noCount => 254 | .absent => 255
/-- Transfer 0, re-presentation 1, probe 2, presentation 3 (R140). -/
def ShiftWork.code : ShiftWork → Nat
  | .transfer => 0 | .representation => 1 | .probe => 2 | .presentation => 3
/-- STUCK_UP 0, STUCK_DOWN 1 (R143). -/
def Sense.code : Sense → Nat
  | .stuckUp => 0 | .stuckDown => 1
/-- PRIMARY 0, ALTERNATE 1. -/
def Selection.code : Selection → Nat
  | .primary => 0 | .alternate => 1
/-- A refusal reason of the loom link (R184). -/
def Reason.code : Reason → Nat
  | .wrongState => 1 | .busy => 2 | .notAtStart => 3 | .noProgram => 4 | .chainNotReady => 5 | .empty => 6
  | .reverseLimit => 7 | .badField => 8 | .unknown => 9
/-- A detail code (R181). -/
def Detail.code : Detail → Nat
  | .plain => 0 | .clamped => 1 | .badCheck => 2 | .badLength => 3 | .badField => 4 | .wrongState => 5 | .noSpace => 6
  | .alreadyExists => 7 | .notFound => 8 | .inUse => 9 | .locked => 10 | .queueFull => 11 | .tableFull => 12 | .conflict => 13
  | .timeout => 14 | .released => 15 | .busy => 16
/-- ACCEPT 00h, REFUSE 01h, UNKNOWN 02h (R181). -/
def ReplyOutcome.code : ReplyOutcome → Nat
  | .accept => 0 | .refuse => 1 | .unknown => 2

/-! ### Frames and messages the part sends -/

/-- Outcome, echoed kind, detail, payload length and payload: the bytes a response's check sums (R181). -/
def Response.body (r : Response) : List Byte :=
  u8 r.outcome.code ++ [r.kind] ++ u8 r.detail.code ++ u16 r.payload.length ++ r.payload

/-- The response frame (R181). -/
def Response.bytes (r : Response) : List Byte := r.body ++ bytes16 (checkSum r.body)

/-- The payload bytes 1..6 of a STATE report (R184). No byte of the layout takes the finger state, so none shows it (DESIGN CHOICE,
log 26). The bits of bytes 1 and 6 that carry nothing are 0 (DESIGN CHOICE, log 31). -/
def StateReport.bytes (r : StateReport) : List Byte :=
  u8 (r.weaving.code * 64 + (if r.shedG.isSome then 32 else 0) + (if r.tag.isSome then 16 else 0) +
      (match r.channel with | some c => 8 + c | none => 0)) ++
    bytes16 (r.shedG.getD 0#16) ++ bytes16 (r.tag.getD 0#16) ++
    u8 ((if r.clamped then 1 else 0) + (if r.representing then 2 else 0))

/-- Bytes 0..6 of a message of the part, before unused bytes are filled with 00h (R184). Bits 7..4 of the chains byte of CHAIN_FAULT are 0
(DESIGN CHOICE, log 31). -/
def LoomMessage.head : LoomMessage → List Byte
  | .runAck => [0x81#8]
  | .refused kind reason => [0x82#8, kind] ++ u8 reason.code
  | .stopRequest cause => [0x83#8] ++ u8 cause.code
  | .backDone g => [0x84#8] ++ bytes32 g
  | .chainFault g chains => [0x85#8] ++ bytes32 g ++ [chains.setWidth 8]
  | .state report => [0x86#8] ++ report.bytes

/-- The sum of some bytes modulo 256: the check of a loom link message (R184). -/
def messageCheck (bytes : List Byte) : Byte := BitVec.ofNat 8 (bytes.foldl (fun n b => n + b.toNat) 0)

/-- The eight bytes of a message of the part (R184). -/
def LoomMessage.bytes (m : LoomMessage) : List Byte :=
  let seven := (m.head ++ List.replicate 6 0#8).take 7
  seven ++ [messageCheck seven]

end Sys2Proof.Machine
end

