-- ==== Sys2Proof/Machine/Ops.lean ====
section
/-! DEFINITION. The operations every block shares: messages to the loom, sync flags and the pending wait, taking a design link
command and answering it, the cells of the pattern store. -/

namespace Sys2Proof.Machine

/-! ### Loom link messages -/

/-- A message joins the transmit queue, or is dropped and counted when sixteen wait (R187). -/
def State.send (s : State) (m : LoomMessage) : State :=
  if s.llp.queue.length < Config.txCapacity then { s with llp.queue := s.llp.queue ++ [m] }
  else { s with evs.link.llTxDropped := bump s.evs.link.llTxDropped }

/-- The record of a step in the queue. -/
def State.step? (s : State) (seq : BitVec 16) : Option StepRec := s.pq.steps.find? fun r => r.seq = seq

/-- The STATE report on the part as it stands: the fields of R184, of which the channel is the shed's (R186), and the finger state with its
channel (R160; log 26). -/
def State.report (s : State) (clamped : Bool) : StateReport :=
  { weaving := s.stu.weaving
    shedG := s.ph.shed.map fun p => p.g.setWidth 16
    tag := s.ph.shed.bind fun p => (s.step? p.seq).bind (·.tag)
    channel := s.ph.shed.bind (·.channel)
    clamped := clamped
    representing := s.ph.representing.isSome
    finger := s.wsu.finger }

/-- A STATE report joins the transmit queue, built in this event (R186). -/
def State.sendState (s : State) (clamped : Bool) : State := s.send (.state (s.report clamped))

/-- A requested stop: STOP_REQUEST is sent and the weaving state stays as it is (R19). -/
def State.requestStop (s : State) (c : Cause) : State := s.send (.stopRequest c)

/-! ### Sync flags and the pending wait (section 1.5) -/

/-- Whether a wait's condition is met by the two flags (R22). -/
def Wait.met (w : Wait) (sync0 sync1 : Bool) : Bool :=
  if w.all then (!w.mask0 || sync0) && (!w.mask1 || sync1) else (w.mask0 && sync0) || (w.mask1 && sync1)

/-- The values of both sync flags as a response carries them (R21, R23; log 7). -/
def State.syncPayload (s : State) : List Byte := uFlag s.stu.sync0 ++ uFlag s.stu.sync1

/-- A response becomes the pending response and BUSY falls (R173, R175). -/
def State.answer (s : State) (kind : Byte) (outcome : ReplyOutcome) (detail : Detail) (payload : List Byte) : State :=
  { s with dlp.response := some { outcome, kind, detail, payload }, dlp.work := none }

/-- The masked flags of a wait are cleared if it asks for that (R23). -/
def State.clearWaited (s : State) (w : Wait) : State :=
  { s with stu.sync0 := s.stu.sync0 && !(w.clear && w.mask0), stu.sync1 := s.stu.sync1 && !(w.clear && w.mask1) }

/-- The pending wait, its condition met, is answered ACCEPT (R23). -/
def State.meetWait (s : State) (w : Wait) : State :=
  { (s.answer 0x17#8 .accept (if w.clamped then .clamped else .plain) s.syncPayload).clearWaited w with stu.wait := none }

/-- The pending wait, if there is one, ends without its condition: REFUSE with the reason and both flags (R23). -/
def State.failWait (s : State) (why : Detail) : State :=
  if s.stu.wait.isSome then { s.answer 0x17#8 .refuse why s.syncPayload with stu.wait := none } else s

/-- A source occurs: every flag with that source is set (R20). -/
def State.setSources (s : State) (src : SyncSource) : State :=
  { s with stu.sync0 := s.stu.sync0 || decide (s.stu.source0 = src), stu.sync1 := s.stu.sync1 || decide (s.stu.source1 = src) }

/-- The pending wait is answered if its condition is met (R23). -/
def State.settleWait (s : State) : State :=
  match s.stu.wait with
  | some w => if w.met s.stu.sync0 s.stu.sync1 then s.meetWait w else s
  | none => s

/-- A source occurs, and the pending wait is answered if that meets its condition (R20, R23). -/
def State.occur (s : State) (src : SyncSource) : State := (s.setSources src).settleWait

/-! ### Design link commands (R171 to R174) -/

/-- The BUSY line: high while a command's work goes on (R173). -/
def State.busy (s : State) : Bool := s.dlp.work.isSome

/-- What the part shifts out for `n` bytes that answer nothing: FFh for each (R171, R174). -/
def idleBytes (n : Nat) : List Byte := List.replicate n 0xFF#8

/-- A bracket of `n` bytes begun while BUSY is high is discarded whole and counted, FFh shifted out for each byte (R174). -/
def State.discardBracket (s : State) (n : Nat) : State :=
  { s with evs.link.dlBusyDiscard := bump s.evs.link.dlBusyDiscard, dlp.shiftedOut := idleBytes n }

/-- A command frame begun while BUSY is low: its bytes are put into the receive buffer, FFh is shifted out for each, and the pending
response is replaced (R171). -/
def State.frameIn (s : State) (bytes : List Byte) : State :=
  { s with dlp.frame := bytes.take Config.frameBufferBytes, dlp.response := none, dlp.shiftedOut := idleBytes bytes.length }

/-- An answer to a command: outcome, detail and payload (R173). -/
structure Reply where
  outcome : ReplyOutcome
  detail : Detail
  payload : List Byte
  deriving DecidableEq, Repr

/-- What a command's owner makes of it: the state, and the answer unless BUSY is held. -/
structure Taken where
  state : State
  reply : Option Reply

/-- Refused for a reason, with an empty payload and no other effect (R173). -/
def Taken.refuse (why : Detail) (s : State) : Taken := ⟨s, some ⟨.refuse, why, []⟩⟩

/-- Accepted, with CLAMPED when the command's rule clamped a value (R173). -/
def Taken.acceptClamped (clamped : Bool) (payload : List Byte) (s : State) : Taken :=
  ⟨s, some ⟨.accept, if clamped then .clamped else .plain, payload⟩⟩

/-- Accepted with detail NONE (R173). -/
def Taken.accept (payload : List Byte) (s : State) : Taken := ⟨s, some ⟨.accept, .plain, payload⟩⟩

/-- Taken, with BUSY held by the work it starts (R173). -/
def Taken.hold (work : DlWork) (s : State) : Taken := ⟨{ s with dlp.work := some work }, none⟩

/-- The state once a command is answered, or BUSY held (R173). -/
def Taken.done (kind : Byte) (t : Taken) : State :=
  match t.reply with
  | some r => t.state.answer kind r.outcome r.detail r.payload
  | none => t.state

/-- A design link command: discarded while BUSY, else put into the buffer, taken by its owner and answered (R171 to R174). -/
def State.takeCommand (s : State) (c : Instr) (owner : State → Taken) : State :=
  if s.busy then s.discardBracket (frameOf c).length
  else (owner (s.frameIn (frameOf c))).done ((commandCode c).getD 0#8)

/-! ### Cells of the pattern store (R46) -/

/-- The colour of the cell at an address; an unlisted cell reads as colour 0. -/
def readCell (m : CellMem) (a : Nat) : Colour :=
  match m with
  | [] => 0#4
  | (b, x) :: rest => if a = b then x else readCell rest a

/-- The store with one cell written, in canonical form: colour 0 is not listed. -/
def writeCell (m : CellMem) (a : Nat) (x : Colour) : CellMem :=
  match m with
  | [] => if x = 0#4 then [] else [(a, x)]
  | (b, y) :: rest =>
    if a < b then (if x = 0#4 then (b, y) :: rest else (a, x) :: (b, y) :: rest)
    else if a = b then (if x = 0#4 then rest else (a, x) :: rest)
    else (b, y) :: writeCell rest a x

/-- The store with `n` cells from `first` cleared to colour 0 (R50). -/
def clearCells (m : CellMem) (first n : Nat) : CellMem := m.filter fun p => decide (p.1 < first ∨ first + n ≤ p.1)

/-- The canonical form: addresses strictly rising, no colour 0. -/
def CellMem.wf (m : CellMem) : Bool :=
  decide (m.Pairwise fun p q => p.1 < q.1) && m.all fun p => decide (p.2 ≠ 0#4)

/-! ### Free values -/

/-- `x` put into `l` at a place. -/
def insertAt {α : Type} : Nat → α → List α → List α
  | 0, x, l => x :: l
  | _ + 1, x, [] => [x]
  | i + 1, x, y :: l => y :: insertAt i x l

/-- The parts of one event in the order a free number gives; every order is the order of some number. -/
def arrange {α : Type} (k : Nat) : List α → List α
  | [] => []
  | x :: l => insertAt (k % (l.length + 1)) x (arrange (k / (l.length + 1)) l)

/-- The parts of one event in a free order, and the counter after it; a single part needs no free value (log 2). -/
def State.freely {α : Type} (s : State) (parts : List α) : List α × State :=
  match parts with
  | [] => ([], s)
  | [x] => ([x], s)
  | _ => (arrange (Config.freeOrder s.free) parts, { s with free := s.free + 1 })

end Sys2Proof.Machine
end

