-- ==== Sys2Proof/Machine/Queue.lean ====
section
/-! DEFINITION. The program queue (chapter 2): derived quantities, the successor of a pick, the life of a step, and the commands
STEP_APPEND, STEP_CUT (its queue part), QUEUE_READ and QUEUE_WATERMARK. -/

namespace Sys2Proof.Machine

/-! ### Derived quantities (R26) -/

/-- L, the rows in the range. -/
def StepRec.rangeRows (r : StepRec) : Nat := r.rowLast + 1 - r.rowFirst
/-- P_v, the vertical period in rows. -/
def StepRec.period (r : StepRec) : Nat :=
  match r.vmode with
  | .straight => r.rangeRows
  | .point => max 1 (2 * r.rangeRows - 2)
/-- The rows of the step. -/
def StepRec.rows (r : StepRec) : Nat := r.n * r.period
/-- T, the picks of the step. -/
def StepRec.picks (r : StepRec) : Nat := r.n * r.period * r.p

/-! ### The successor of a pick (section 2.4) -/

/-- The answer to a question for a successor: a pick of a step, with whether case 4 of R33 gave it, or no successor. -/
inductive Answer where
  | pick (seq : BitVec 16) (t : Nat) (starved : Bool)
  | noSuccessor
  deriving DecidableEq, Repr

/-- The oldest PENDING record. -/
def firstPending (q : List StepRec) : Option StepRec := q.find? fun r => r.state = .waiting

/-- The records that follow the step `seq` in the queue. -/
def stepsAfter (q : List StepRec) (seq : BitVec 16) : List StepRec := (q.dropWhile fun r => r.seq ≠ seq).drop 1

/-- The successor of pick `t` of a step by the cases of R33. -/
def successorIn (q : List StepRec) (r : StepRec) (t : Nat) : Answer :=
  if t + 1 < r.picks then .pick r.seq (t + 1) false
  else match firstPending (stepsAfter q r.seq) with
    | some next => .pick next.seq 0 false
    | none =>
      if r.stopAtEnd then .noSuccessor
      else if r.n < 4095 then .pick r.seq (t + 1) true
      else .noSuccessor

/-- The answer to the composer's question: the successor of the shed pick, or the first pick of the program (R32, R33). -/
def State.nextAnswer (s : State) : Answer :=
  match s.ph.shed with
  | some shed =>
    match s.step? shed.seq with
    | some r => successorIn s.pq.steps r shed.t
    | none => .noSuccessor
  | none =>
    match firstPending s.pq.steps with
    | some r => .pick r.seq 0 false
    | none => .noSuccessor

/-- The logical weft of pick `t` of a step: entry t mod length of its weft sequence (R35, R156). -/
def State.logicalWeft (s : State) (seq : BitVec 16) (t : Nat) : Nat :=
  match s.step? seq with
  | some r => (tabGet s.wsu.sequences r.weftSeq []).getD (t % (tabGet s.wsu.sequences r.weftSeq []).length) 0
  | none => 0

/-- The logical weft of the successor, as the weft selector's question is answered: it changes nothing (R35). -/
def State.weftAnswer (s : State) : Option Nat :=
  match s.pcm.staging with
  | some st => some st.pick.weft
  | none => match s.nextAnswer with
    | .pick seq t _ => some (s.logicalWeft seq t)
    | .noSuccessor => none

/-! ### The life of a step (section 2.5) -/

/-- The record of a step changed by `f`. -/
def State.updateStep (s : State) (seq : BitVec 16) (f : StepRec → StepRec) : State :=
  { s with pq.steps := s.pq.steps.map fun r => if r.seq = seq then f r else r }

/-- A starved step is extended by one pass (R34). -/
def State.extendStep (s : State) (seq : BitVec 16) : State :=
  let s := (s.updateStep seq fun r => { r with n := r.n + 1 }).raise .programStarved
  { s with evs.stops.starved := bump s.evs.stops.starved }

/-- The number of records in a state. -/
def countSteps (q : List StepRec) (x : StepState) : Nat := q.countP fun r => r.state = x

/-- The watermark check (R39). -/
def State.checkWatermark (s : State) : State :=
  if countSteps s.pq.steps .waiting < s.pq.watermark then (s.raise .queueLow).occur .queueLow else s

/-- The row_base a step takes when it opens: that of the record before it plus that record's rows, or 0 (R38). -/
def openingBase (q : List StepRec) (seq : BitVec 16) : BitVec 32 :=
  match (q.takeWhile fun r => r.seq ≠ seq).getLast? with
  | some r => (r.rowBase.getD 0#32) + BitVec.ofNat 32 r.rows
  | none => 0#32

/-- A PENDING step opens as its pick 0 enters staging (R38). -/
def State.openStep (s : State) (r : StepRec) : State :=
  let base := openingBase s.pq.steps r.seq
  let s := (s.updateStep r.seq fun x => { x with state := .opened, rowBase := some base }).raise .stepOpened
  let s := { s with evs.opened := some (r.seq, r.tag) }
  (s.occur .stepOpened).checkWatermark

/-- The step of a pick that enters staging opens if it is PENDING (R38). -/
def State.enterStep (s : State) (seq : BitVec 16) : State :=
  match s.step? seq with
  | some r => if r.state = .waiting then s.openStep r else s
  | none => s

/-- Whether the shed pick or the staging pick belongs to a step (R36). -/
def State.holdsStep (s : State) (seq : BitVec 16) : Bool :=
  (s.ph.shed.any fun p => p.seq = seq) || (s.pcm.staging.any fun st => st.pick.seq = seq)

/-- An OPEN step left with neither the shed pick nor the staging pick, its last pick unwoven, returns to PENDING (R40). -/
def State.returnStep (s : State) (seq : BitVec 16) : State :=
  if s.holdsStep seq then s
  else s.updateStep seq fun r => if r.state = .opened then { r with state := .waiting, rowBase := none } else r

/-- At a latch the step of the old shed, left with neither the shed pick nor a staging pick, becomes CLOSED (R41). -/
def State.closeStep (s : State) (seq : BitVec 16) : State :=
  if s.holdsStep seq then s
  else ((s.updateStep seq fun r => { r with state := .closed }).raise .stepClosed).occur .stepClosed

/-- A pick back makes a record of a CLOSED step the shed: the step is OPEN again, without STEP_OPENED (R43). -/
def State.reopenStep (s : State) (seq : BitVec 16) : State :=
  s.updateStep seq fun r => if r.state = .closed then { r with state := .opened } else r

/-- A step leaves the queue (R42). -/
def State.freeStep (s : State) (seq : BitVec 16) : State :=
  { s with pq.steps := s.pq.steps.filter fun r => r.seq ≠ seq }

/-- A capacity drop is reported: the step of the dropped record is freed if it is CLOSED and no ring record refers to it any
longer (R116, R42). -/
def State.dropReported (s : State) (seq : BitVec 16) : State :=
  match s.step? seq with
  | some r => if r.state = .closed ∧ ¬ s.ph.ring.any (fun p => p.seq = seq) then s.freeStep seq else s
  | none => s

/-- The ring without the records of a step, which form a run from its old end (R118). -/
def trimRing (ring : List Pick) (seq : BitVec 16) : List Pick := ring.dropWhile fun p => p.seq = seq

/-- An append into a full queue frees the oldest record, a CLOSED one, and trims the ring of it (R28, R118). -/
def State.freeForAppend (s : State) (oldest : StepRec) : State :=
  { s.freeStep oldest.seq with ph.ring := trimRing s.ph.ring oldest.seq, ph.origin := false }

/-! ### Commands of the design station -/

/-- The sequence counter passed over the values that records carry (R27); 32 values cannot all be carried by 31 records. -/
def freeSeq (q : List StepRec) : Nat → BitVec 16 → BitVec 16
  | 0, c => c
  | fuel + 1, c => if q.any fun r => r.seq = c then freeSeq q fuel (c + 1#16) else c

/-- The record joins the queue at the new end with the next free seq (R27). -/
def State.joinQueue (s : State) (mk : BitVec 16 → StepRec) : State :=
  let seq := freeSeq s.pq.steps Config.queueCapacity s.pq.counter
  { s with pq.steps := s.pq.steps ++ [mk seq], pq.counter := seq + 1#16 }

/-- The response of an accepted append: the assigned seq and the number of records. -/
def appendPayload (s : State) : List Byte := bytes16 (s.pq.counter - 1#16) ++ u8 s.pq.steps.length

/-- STEP_APPEND on the part: tests in order, freeing, joining (R27, R28). -/
def takeStepAppend (design : Byte) (rowFirst rowLast : BitVec 16) (vmode : Byte) (n : BitVec 16) (p weftSeq : Byte)
    (tag : OptField 16) (stopAtEnd : Byte) (s : State) : Taken :=
  match repeatOf vmode, optOf tag, flagOf stopAtEnd with
  | some v, some tg, some stop =>
    if 16 ≤ design.toNat ∨ n.toNat = 0 ∨ 4095 < n.toNat ∨ p.toNat = 0 ∨ 4 < p.toNat ∨ 16 ≤ weftSeq.toNat then .refuse .badField s
    else match tabGet s.ps.directory design.toNat none with
      | none => .refuse .notFound s
      | some d =>
        if rowLast.toNat < rowFirst.toNat ∨ d.h ≤ rowLast.toNat then .refuse .badField s
        else
          let mk := fun seq => { seq, design := design.toNat, rowFirst := rowFirst.toNat, rowLast := rowLast.toNat, vmode := v,
                                 n := n.toNat, p := p.toNat, weftSeq := weftSeq.toNat, tag := tg, stopAtEnd := stop,
                                 rowBase := none, state := .waiting : StepRec }
          if s.pq.steps.length < Config.queueCapacity then .accept (appendPayload (s.joinQueue mk)) (s.joinQueue mk)
          else match s.pq.steps.head? with
            | some oldest =>
              if oldest.state = .closed then
                .accept (appendPayload ((s.freeForAppend oldest).joinQueue mk)) ((s.freeForAppend oldest).joinQueue mk)
              else .refuse .queueFull s
            | none => .refuse .queueFull s
  | _, _, _ => .refuse .badField s

/-- STEP_APPEND (R27, R28). -/
def execStepAppend (design : Byte) (rowFirst rowLast : BitVec 16) (vmode : Byte) (n : BitVec 16) (p weftSeq : Byte)
    (tag : OptField 16) (stopAtEnd : Byte) (s : State) : Host.Outcome State Fault Refusal :=
  .next (s.takeCommand (.stepAppend design rowFirst rowLast vmode n p weftSeq tag stopAtEnd)
    (takeStepAppend design rowFirst rowLast vmode n p weftSeq tag stopAtEnd))

/-- Every field of R25's record table, then L, P_v and T (R30). -/
def StepRec.payload (r : StepRec) : List Byte :=
  bytes16 r.seq ++ u8 r.design ++ u16 r.rowFirst ++ u16 r.rowLast ++ u8 r.vmode.code ++ u16 r.n ++ u8 r.p ++ u8 r.weftSeq ++
    uOpt 2 bytes16 r.tag ++ uFlag r.stopAtEnd ++ uOpt 4 bytes32 r.rowBase ++ u8 r.state.code ++
    u16 r.rangeRows ++ u16 r.period ++ u32 r.picks

/-- The counts of records: PENDING, OPEN and CLOSED. -/
def stepCounts (q : List StepRec) : List Byte :=
  u8 (countSteps q .waiting) ++ u8 (countSteps q .opened) ++ u8 (countSteps q .closed)

/-- QUEUE_READ on the part (R30). -/
def takeQueueRead (index : Byte) (s : State) : Taken :=
  if 31 < index.toNat then .refuse .badField s
  else match s.pq.steps[index.toNat]? with
    | none => .refuse .notFound s
    | some r => .accept (r.payload ++ u8 s.pq.steps.length ++ stepCounts s.pq.steps) s

/-- QUEUE_READ (R30). -/
def execQueueRead (index : Byte) (s : State) : Host.Outcome State Fault Refusal :=
  .next (s.takeCommand (.queueRead index) (takeQueueRead index))

/-- QUEUE_WATERMARK on the part (R31). -/
def takeQueueWatermark (value : Byte) (s : State) : Taken :=
  .acceptClamped (decide (31 < value.toNat)) [] { s with pq.watermark := min value.toNat 31 }

/-- QUEUE_WATERMARK (R31). -/
def execQueueWatermark (value : Byte) (s : State) : Host.Outcome State Fault Refusal :=
  .next (s.takeCommand (.queueWatermark value) (takeQueueWatermark value))

end Sys2Proof.Machine
end

