-- ==== Sys2Proof/Machine/Weft.lean ====
section
/-! DEFINITION. The weft selector unit (chapter 10): resolution, the finger with its release record, the pick due, and the
commands WEFT_SEQ_WRITE, WEFT_MAP_WRITE, WEFT_READ. -/

namespace Sys2Proof.Machine

/-! ### Resolution (R158) -/

/-- The channel an entry's selection names. -/
def WeftEntry.selected (e : WeftEntry) : Nat :=
  match e.selection with
  | .primary => e.primary
  | .alternate => e.alternate.getD e.primary

/-- The other channel of an entry, if it is defined. -/
def WeftEntry.other (e : WeftEntry) : Option Nat :=
  match e.selection with
  | .primary => e.alternate
  | .alternate => some e.primary

/-- The entry with its selection on the other channel. -/
def WeftEntry.switched (e : WeftEntry) : WeftEntry :=
  { e with selection := match e.selection with | .primary => .alternate | .alternate => .primary }

/-- Whether a channel is READY. -/
def Wsu.isReady (w : Wsu) (channel : Nat) : Bool := tabGet w.ready channel false

/-- The map entry of a logical weft. -/
def Wsu.entry (w : Wsu) (logical : Nat) : WeftEntry := tabGet w.map logical (.powerOn logical)

/-- The other channel of an entry when it is defined and READY. -/
def Wsu.spare (w : Wsu) (e : WeftEntry) : Option Nat :=
  match e.other with
  | some c => if w.isReady c then some c else none
  | none => none

/-- An entry switches to its other channel `c`: WEFT_SWITCHED is raised with its detail (R158). -/
def State.switchWeft (s : State) (logical c : Nat) : State :=
  let s := { s with wsu.map := tabSet s.wsu.map logical (s.wsu.entry logical).switched }
  { s.raise .weftSwitched with evs.switched := some (logical, c) }

/-- Resolving a logical weft: the channel, and the state with the switch it may make (R158). -/
def State.resolve (s : State) (logical : Nat) : Nat × State :=
  let e := s.wsu.entry logical
  if s.wsu.isReady e.selected then (e.selected, s)
  else match s.wsu.spare e with
    | some c => (c, s.switchWeft logical c)
    | none => (e.selected, s)

/-! ### The pick due for a finger (R161) -/

/-- The pick an engagement serves: the shed record, the staging record, a queue answer's logical weft, or none. -/
inductive Due where
  | shed (p : Pick)
  | staging (p : Pick)
  | answer (weft : Nat)
  | nothing
  deriving DecidableEq, Repr

/-- Cases 2 to 4 of R161. -/
def State.dueAfterShed (s : State) : Due :=
  match s.pcm.staging with
  | some st => .staging st.pick
  | none => match s.weftAnswer with
    | some w => .answer w
    | none => .nothing

/-- The pick due (R161). -/
def State.pickDue (s : State) : Due :=
  match s.ph.shed with
  | some p => if p.channel = none then .shed p else s.dueAfterShed
  | none => s.dueAfterShed

/-- The G of the next pick: the shed's G + 1, or the next-pick number (R80). -/
def State.nextG (s : State) : BitVec 32 :=
  match s.ph.shed with
  | some p => p.g + 1#32
  | none => s.pcm.nextPick

/-- The logical weft of a pick due, if there is one. -/
def Due.weft? : Due → Option Nat
  | .shed p => some p.weft
  | .staging p => some p.weft
  | .answer w => some w
  | .nothing => none

/-- The G an engagement for a pick due serves; for a queue answer the G that pick will take (R163). -/
def State.dueG (s : State) : Due → BitVec 32
  | .shed p => p.g
  | .staging p => p.g
  | .answer _ => s.nextG
  | .nothing => s.nextG

/-- The physical channel is written into the record of the pick due, when that pick has a record (R163). -/
def State.writeChannel (s : State) (due : Due) (c : Nat) : State :=
  match due with
  | .shed p => { s with ph.shed := some { p with channel := some c } }
  | .staging p => { s with pcm.staging := s.pcm.staging.map fun st => { st with pick := { p with channel := some c } } }
  | .answer _ => s
  | .nothing => s

/-! ### The finger (R160) -/

/-- The finger is released: every line inactive, and in RUNNING the release record is written with the DEAD now active. -/
def State.releaseFinger (s : State) : State :=
  match s.stu.weaving with
  | .running => { s with wsu.finger := .off, wsu.release := some { dead := s.stu.active.dead, count := 0 } }
  | _ => { s with wsu.finger := .off }

/-- Whether the dead time is complete (R163). -/
def State.deadComplete (s : State) : Bool :=
  match s.wsu.release with
  | some r => decide (r.dead ≤ r.count)
  | none => true

/-- The finger engages a channel for a pick due: line active, channel written, served G set, release record absent (R160, R163). -/
def State.engageFor (s : State) (due : Due) (c : Nat) : State :=
  let g := s.dueG due
  { s.writeChannel due c with wsu.finger := .engaged c, wsu.servedG := some g, wsu.release := none }

/-- The moment of engagement: the pick due is named and resolved again and its channel engaged; with none due the finger state
becomes NONE and served G absent (R163). -/
def State.engage (s : State) : State :=
  let due := s.pickDue
  match due.weft? with
  | none => { s with wsu.finger := .off, wsu.servedG := none }
  | some w => (s.resolve w).2.engageFor due (s.resolve w).1

/-- Whether the engagement outstanding is a WAITING one that a crossing has already carried (R164). -/
def Finger.carried : Finger → Bool
  | .waiting _ b => b
  | .engaged _ => false
  | .off => false

/-- An engagement is decided: WAITING for its channel, made in this event when the dead time is complete (R163). -/
def State.waitFor (s : State) (c : Nat) : State :=
  let s := { s with wsu.finger := .waiting c s.wsu.finger.carried }
  if s.deadComplete then s.engage else s

/-- WEFT_RELEASE delivered in RUNNING (R162). WAITING with no successor, where no channel is resolved, keeps its tentative channel (DESIGN
CHOICE, log 29). -/
def State.weftRelease (s : State) : State :=
  match s.weftAnswer with
  | none => match s.wsu.finger with
    | .engaged _ => s.releaseFinger
    | .off => s
    | .waiting _ _ => s
  | some w =>
    let c := (s.resolve w).1
    let s := (s.resolve w).2
    match s.wsu.finger with
    | .engaged now => if now = c then s else s.releaseFinger
    | .off => s
    | .waiting _ b => { s with wsu.finger := .waiting c b }

/-- WEFT_SELECT delivered in RUNNING (R163). -/
def State.weftSelect (s : State) : State :=
  let due := s.pickDue
  match due.weft? with
  | none => match s.wsu.finger with
    | .waiting _ _ => { s with wsu.finger := .off, wsu.servedG := none }
    | .engaged _ => s
    | .off => s
  | some w =>
    let c := (s.resolve w).1
    let s := (s.resolve w).2
    match s.wsu.finger with
    | .engaged now =>
      if now = c then { s.writeChannel due c with wsu.servedG := some (s.dueG due) } else s.releaseFinger.waitFor c
    | .off => s.waitFor c
    | .waiting _ _ => s.waitFor c

/-- A forward quadrature step taken in RUNNING counts in the release record, up to 255 (R160). -/
def State.countRelease (s : State) : State :=
  match s.stu.weaving, s.wsu.release with
  | .running, some r => { s with wsu.release := some { r with count := min (r.count + 1) 255 } }
  | _, _ => s

/-- Whether a WAITING engagement's dead time is complete in RUNNING. -/
def State.engagementDue (s : State) : Bool :=
  match s.stu.weaving, s.wsu.finger with
  | .running, .waiting _ _ => s.deadComplete
  | _, _ => false

/-- Whether an engagement is outstanding that no crossing has carried yet (R164; log 17). -/
def State.outstanding (s : State) : Bool :=
  match s.wsu.finger with
  | .waiting _ carried => !carried
  | .off => s.wsu.release.isSome && s.pickDue.weft?.isSome
  | .engaged _ => false

/-- A WAITING engagement is marked as carried (R164). -/
def State.markCarried (s : State) : State :=
  match s.wsu.finger with
  | .waiting c _ => { s with wsu.finger := .waiting c true }
  | .engaged _ => s
  | .off => s

/-- An engagement outstanding at a forward index crossing in RUNNING is carried into the new revolution (R164). -/
def State.carryEngagement (s : State) : State :=
  if s.stu.weaving = .running ∧ s.outstanding then
    let s := s.raise .weftLate
    let s := { s with evs.weft.weftLate := bump s.evs.weft.weftLate }
    let s := s.requestStop .weftLate
    match s.wsu.finger with
    | .off => s.weftSelect.markCarried
    | .waiting _ _ => s.markCarried
    | .engaged _ => s
  else s

/-- This revolution's WEFT_SELECT counts as delivered: it is disarmed as its firing would disarm it, and is not delivered again (R165, R4;
log 27). -/
def State.countSelect (s : State) : State := { s with stu.armed.weftSelect := false }

/-- A composition begins with the finger engaged for its G: its weft is resolved, and the record takes the channel, or the finger is
released and waits for another, with this revolution's WEFT_SELECT counted as delivered (R165). -/
def State.checkChannel (s : State) : State :=
  match s.pcm.staging, s.wsu.finger with
  | some st, .engaged now =>
    if s.wsu.servedG = some st.pick.g then
      let c := (s.resolve st.pick.weft).1
      let s := (s.resolve st.pick.weft).2
      if now = c then s.writeChannel (.staging st.pick) c else s.countSelect.releaseFinger.waitFor c
    else s
  | _, _ => s

/-- A stop taken in RUNNING: a WAITING engagement is cancelled and the release record becomes absent (R166). -/
def State.stopFinger (s : State) : State :=
  let finger := match s.wsu.finger with | .waiting _ _ => .off | f => f
  { s with wsu.finger := finger, wsu.release := none }

/-- FIND releases the engaged finger (R166). -/
def State.findFinger (s : State) : State := { s with wsu.finger := .off, wsu.release := none, wsu.servedG := none }

/-- RUN taken with a shed record engages the finger for it at once; no dead time applies across RUN (R167). -/
def State.runFinger (s : State) : State :=
  match s.ph.shed with
  | none => s
  | some p =>
    let c := (s.resolve p.weft).1
    let s := (s.resolve p.weft).2
    let s := { s with ph.shed := some { p with channel := some (p.channel.getD c) }, wsu.servedG := some p.g }
    if s.wsu.finger = .engaged c then s else { s with wsu.finger := .engaged c, wsu.release := none }

/-! ### Package messages (R159) -/

/-- A map entry meets its selected channel running out: it switches, or is exhausted (R159). -/
def State.entryOut (channel : Nat) (s : State) (logical : Nat) : State :=
  let e := s.wsu.entry logical
  if e.selected = channel then
    match s.wsu.spare e with
    | some c => s.switchWeft logical c
    | none => { s with wsu.map := tabSet s.wsu.map logical { e with exhausted := true } }
  else s

/-- The number of map entries whose exhausted field is set. -/
def Wsu.exhaustedCount (w : Wsu) : Nat := w.map.toList.countP (·.exhausted)

/-- A channel runs out: status OUT, counted, entries switched or exhausted in ascending order, one request when an exhausted
field is newly set (R159). -/
def State.channelOut (s : State) (channel : Nat) : State :=
  let before := s.wsu.exhaustedCount
  let s := { s with wsu.ready := tabSet s.wsu.ready channel false,
                    evs.weft.packageOut := countAt s.evs.weft.packageOut channel 1 }
  let s := (List.range 8).foldl (State.entryOut channel) s
  if before < s.wsu.exhaustedCount then (s.raise .weftExhausted).requestStop .weftExhausted else s

/-- A channel is READY again: exhausted fields it resolves are cleared, no selection moves (R159). -/
def State.channelReady (s : State) (channel : Nat) : State :=
  let s := { s with wsu.ready := tabSet s.wsu.ready channel true }
  let resolved := fun (_ : Nat) (e : WeftEntry) =>
    if e.selected = channel ∨ (s.wsu.spare e).isSome then { e with exhausted := false } else e
  { s with wsu.map := tabMap resolved s.wsu.map }

/-! ### Commands of the design station -/

/-- A weft sequence as a response carries it: length, then the entries. -/
def sequencePayload (l : List Nat) : List Byte := u8 l.length ++ l.flatMap u8

/-- WEFT_SEQ_WRITE on the part (R156). -/
def takeWeftSeqWrite (id length : Byte) (entries : List Byte) (s : State) : Taken :=
  if 16 ≤ id.toNat ∨ length.toNat = 0 ∨ 8 < length.toNat ∨ entries.length ≠ length.toNat ∨ ¬ entries.all (fun b => b.toNat < 8) then
    .refuse .badField s
  else
    let l := entries.map (·.toNat)
    .accept (sequencePayload l) { s with wsu.sequences := tabSet s.wsu.sequences id.toNat l }

/-- WEFT_SEQ_WRITE (R156). -/
def execWeftSeqWrite (id length : Byte) (entries : List Byte) (s : State) : Host.Outcome State Fault Refusal :=
  .next (s.takeCommand (.weftSeqWrite id length entries) (takeWeftSeqWrite id length entries))

/-- A map entry as a response carries it. -/
def WeftEntry.payload (e : WeftEntry) : List Byte :=
  u8 e.primary ++ uOpt 1 u8 e.alternate ++ u8 e.selection.code ++ uFlag e.exhausted

/-- A channel's status: READY 0, OUT 1 (R157). -/
def Wsu.statusByte (w : Wsu) (channel : Nat) : List Byte := u8 (if w.isReady channel then 0 else 1)

/-- WEFT_MAP_WRITE on the part (R157). -/
def takeWeftMapWrite (logical primary : Byte) (alternate : OptField 8) (selection : Byte) (s : State) : Taken :=
  match optOf alternate, selectionOf selection with
  | some alt, some sel =>
    if 8 ≤ logical.toNat ∨ 8 ≤ primary.toNat ∨ (alt.any fun a => 8 ≤ a.toNat) ∨ alt = some primary ∨
        (sel = .alternate ∧ alt = none) then .refuse .badField s
    else
      let e : WeftEntry := { primary := primary.toNat, alternate := alt.map (·.toNat), selection := sel, exhausted := false }
      .accept (e.payload ++ s.wsu.statusByte e.primary ++ uOpt 1 s.wsu.statusByte e.alternate)
        { s with wsu.map := tabSet s.wsu.map logical.toNat e }
  | _, _ => .refuse .badField s

/-- WEFT_MAP_WRITE (R157). -/
def execWeftMapWrite (logical primary : Byte) (alternate : OptField 8) (selection : Byte) (s : State) :
    Host.Outcome State Fault Refusal :=
  .next (s.takeCommand (.weftMapWrite logical primary alternate selection) (takeWeftMapWrite logical primary alternate selection))

/-- The finger state with its channel, as STATUS_READ and WEFT_READ give it: NONE 0, ENGAGED 1, WAITING 2 (R160). -/
def Finger.payload : Finger → List Byte
  | .off => u8 0 ++ uOpt 1 u8 none
  | .engaged c => u8 1 ++ uOpt 1 u8 (some c)
  | .waiting c _ => u8 2 ++ uOpt 1 u8 (some c)

/-- The release record as a response carries it. -/
def releasePayload (r : Option Release) : List Byte := uOpt 2 (fun (x : Release) => u8 x.dead ++ u8 x.count) r

/-- WEFT_READ on the part (R169). -/
def takeWeftRead (id : Byte) (s : State) : Taken :=
  if 16 ≤ id.toNat then .refuse .badField s
  else .accept (sequencePayload (tabGet s.wsu.sequences id.toNat []) ++ s.wsu.map.toList.flatMap WeftEntry.payload ++
      (List.range 8).flatMap s.wsu.statusByte ++ s.wsu.finger.payload ++ uOpt 4 bytes32 s.wsu.servedG ++
      releasePayload s.wsu.release) s

/-- WEFT_READ (R169). -/
def execWeftRead (id : Byte) (s : State) : Host.Outcome State Fault Refusal :=
  .next (s.takeCommand (.weftRead id) (takeWeftRead id))

end Sys2Proof.Machine
end

