-- ==== Sys2Proof/Machine/Store.lean ====
section
/-! DEFINITION. The pattern store (chapter 3): blocks, cells and free space, locking, the window and its cursor, and every design
command but the cell writes, which stand in Edits.lean. -/

namespace Sys2Proof.Machine

/-! ### Blocks, cells, free space -/

/-- B, the blocks per row: ceil(W / 512) (R46, R47). -/
def Design.blocksPerRow (d : Design) : Nat := (d.w + (Config.cellsPerBlock - 1)) / Config.cellsPerBlock
/-- H × B, the blocks of the design's run. -/
def Design.blocks (d : Design) : Nat := d.h * d.blocksPerRow
/-- The address of cell (r, c): position c mod 512 of block base + r × B + c div 512 (R46). -/
def Design.cellAddr (d : Design) (r c : Nat) : Nat :=
  (d.base + r * d.blocksPerRow + c / Config.cellsPerBlock) * Config.cellsPerBlock + c % Config.cellsPerBlock

/-- The directory record of an id, when present. -/
def State.design? (s : State) (id : Nat) : Option Design := tabGet s.ps.directory id none

/-- A run of blocks (first, length) put into its place in increasing block number. -/
def insertRun (x : Nat × Nat) : List (Nat × Nat) → List (Nat × Nat)
  | [] => [x]
  | y :: rest => if x.1 < y.1 then x :: y :: rest else y :: insertRun x rest

/-- The block runs of the present designs in increasing block number. -/
def usedRuns (dir : Vector (Option Design) 16) : List (Nat × Nat) :=
  (dir.toList.filterMap fun o => o.map fun d => (d.base, d.blocks)).foldr insertRun []

/-- The maximal runs of free blocks from block `start` on, between used runs in increasing block number (R48, R50). -/
def gaps (start : Nat) : List (Nat × Nat) → List (Nat × Nat)
  | [] => if start < Config.blockCount then [(start, Config.blockCount - start)] else []
  | (b, n) :: rest => if start < b then (start, b - start) :: gaps (b + n) rest else gaps (b + n) rest

/-- The free space as maximal runs in increasing block number. -/
def freeRuns (dir : Vector (Option Design) 16) : List (Nat × Nat) := gaps 0 (usedRuns dir)

/-- The total of free blocks. -/
def freeTotal (dir : Vector (Option Design) 16) : Nat := ((freeRuns dir).map (·.2)).sum

/-- The longest of some runs, the first of them where several are longest; (0, 0) when there is none (R62). -/
def longestRun : List (Nat × Nat) → Nat × Nat
  | [] => (0, 0)
  | x :: rest => if (longestRun rest).2 ≤ x.2 then x else longestRun rest

/-- First fit: the first free run of at least `need` blocks (R50). -/
def firstFit (dir : Vector (Option Design) 16) (need : Nat) : Option Nat :=
  ((freeRuns dir).find? fun r => need ≤ r.2).map (·.1)

/-- Total of free blocks and largest free run, as responses carry them. -/
def freePayload (dir : Vector (Option Design) 16) : List Byte := u32 (freeTotal dir) ++ u32 (longestRun (freeRuns dir)).2

/-! ### Locking (R53) -/

/-- A design is locked while an OPEN or CLOSED record names it. -/
def State.locked (s : State) (id : Nat) : Bool := s.pq.steps.any fun r => r.design = id ∧ r.state ≠ .waiting

/-- Whether a write to a design is refused LOCKED (R54, R55). -/
def State.writeLocked (s : State) (id : Nat) : Bool :=
  s.locked id && !((s.design? id).any (·.liveEdit))

/-! ### The window and the cursor (R56, R57) -/

/-- The column the traversal starts from. -/
def Window.startCol (w : Window) : Nat := match w.colDir with | .up => w.col0 | .down => w.col1
/-- The last column of the traversal. -/
def Window.endCol (w : Window) : Nat := match w.colDir with | .up => w.col1 | .down => w.col0
/-- The row the traversal starts from. -/
def Window.startRow (w : Window) : Nat := match w.rowDir with | .up => w.row0 | .down => w.row1
/-- The last row of the traversal. -/
def Window.endRow (w : Window) : Nat := match w.rowDir with | .up => w.row1 | .down => w.row0

/-- One place on in a direction. -/
def Dir.move (d : Dir) (x : Nat) : Nat := match d with | .up => x + 1 | .down => x - 1

/-- The cursor's column one on in col_dir, from the end column back to the start column. -/
def Window.nextCol (w : Window) : Nat := if w.col = w.endCol then w.startCol else w.colDir.move w.col
/-- The cursor's row one on in row_dir, from the end row back to the start row. -/
def Window.nextRow (w : Window) : Nat := if w.row = w.endRow then w.startRow else w.rowDir.move w.row

/-- The window with its cursor advanced once (R57). -/
def Window.advance (w : Window) : Window :=
  match w.order with
  | .rowFirst => { w with col := w.nextCol, row := if w.col = w.endCol then w.nextRow else w.row }
  | .columnFirst => { w with row := w.nextRow, col := if w.row = w.endRow then w.nextCol else w.col }

/-- The window with its cursor at the start corner (R56). -/
def Window.home (w : Window) : Window := { w with row := w.startRow, col := w.startCol }

/-- Cells written in order at the cursor, which advances after each (R58). -/
def writeAtCursor (d : Design) : List Colour → CellMem → Window → CellMem × Window
  | [], m, w => (m, w)
  | x :: rest, m, w => writeAtCursor d rest (writeCell m (d.cellAddr w.row w.col) x) w.advance

/-- `n` cells read in order at the cursor, which advances after each (R59). -/
def readAtCursor (d : Design) (m : CellMem) : Nat → Window → List Colour × Window
  | 0, w => ([], w)
  | n + 1, w =>
    let r := readAtCursor d m n w.advance
    (readCell m (d.cellAddr w.row w.col) :: r.1, r.2)

/-- The cursor's row and column as a response carries them. -/
def Window.cursorPayload (w : Window) : List Byte := u16 w.row ++ u16 w.col

/-! ### Defining and deleting -/

/-- DESIGN_DEFINE on the part: tests in order, the record, its blocks, an empty colour map; BUSY is held by the clearing (R49,
R50). -/
def takeDesignDefine (id : Byte) (w h : BitVec 16) (liveEdit : Byte) (s : State) : Taken :=
  match flagOf liveEdit with
  | none => .refuse .badField s
  | some live =>
    if 16 ≤ id.toNat ∨ w.toNat = 0 ∨ 6144 < w.toNat ∨ h.toNat = 0 ∨ 16384 < h.toNat then .refuse .badField s
    else if (s.design? id.toNat).isSome then .refuse .alreadyExists s
    else
      let d : Design := { w := w.toNat, h := h.toNat, base := 0, liveEdit := live }
      match firstFit s.ps.directory d.blocks with
      | none => .refuse .noSpace s
      | some base => .hold (.define id.toNat)
          { s with ps.directory := tabSet s.ps.directory id.toNat (some { d with base := base }),
                   wct.maps := tabSet s.wct.maps id.toNat .empty }

/-- DESIGN_DEFINE (R49, R50). -/
def execDesignDefine (id : Byte) (w h : BitVec 16) (liveEdit : Byte) (s : State) : Host.Outcome State Fault Refusal :=
  .next (s.takeCommand (.designDefine id w h liveEdit) (takeDesignDefine id w h liveEdit))

/-- The clearing of a defined design's blocks ends: the response becomes pending and BUSY falls (R50). -/
def State.defineDone (s : State) (id : Nat) : State :=
  match s.design? id with
  | some d =>
    { s with ps.cells := clearCells s.ps.cells (d.base * Config.cellsPerBlock) (d.blocks * Config.cellsPerBlock) }.answer 0x30#8
      .accept .plain (u16 d.base ++ u8 d.blocksPerRow ++ u32 d.blocks ++ freePayload s.ps.directory)
  | none => s

/-- DEFINE_CLEAR_DONE (R50); with no clearing in progress the event does not occur (log 8). -/
def execDefineClearDone (s : State) : Host.Outcome State Fault Refusal :=
  .next (match s.dlp.work with
    | some (.define id) => s.defineDone id
    | _ => s)

/-- DESIGN_DELETE on the part (R51). -/
def takeDesignDelete (id : Byte) (s : State) : Taken :=
  if 16 ≤ id.toNat then .refuse .badField s
  else if (s.design? id.toNat).isNone then .refuse .notFound s
  else if s.pq.steps.any fun r => r.design = id.toNat then .refuse .inUse s
  else
    let dir := tabSet s.ps.directory id.toNat none
    let window := if s.ps.window.any fun w => w.design = id.toNat then none else s.ps.window
    .accept (freePayload dir) { s with ps.directory := dir, ps.window := window }

/-- DESIGN_DELETE (R51). -/
def execDesignDelete (id : Byte) (s : State) : Host.Outcome State Fault Refusal :=
  .next (s.takeCommand (.designDelete id) (takeDesignDelete id))

/-- DESIGN_INFO on the part (R52). -/
def takeDesignInfo (id : Byte) (s : State) : Taken :=
  if 16 ≤ id.toNat then .refuse .badField s
  else match s.design? id.toNat with
    | none => .refuse .notFound s
    | some d => .accept (u16 d.w ++ u16 d.h ++ u16 d.base ++ u8 d.blocksPerRow ++ uFlag d.liveEdit ++ uFlag (s.locked id.toNat) ++
        stepCounts (s.pq.steps.filter fun r => r.design = id.toNat)) s

/-- DESIGN_INFO (R52). -/
def execDesignInfo (id : Byte) (s : State) : Host.Outcome State Fault Refusal :=
  .next (s.takeCommand (.designInfo id) (takeDesignInfo id))

/-- The cells of a window. -/
def Window.size (w : Window) : Nat := (w.col1 - w.col0 + 1) * (w.row1 - w.row0 + 1)

/-- DESIGN_WINDOW on the part (R56). With an order or direction code outside its values and no record of id the answer is BAD_FIELD, which is
the model's choice (DESIGN CHOICE, log 25). -/
def takeDesignWindow (id : Byte) (col0 col1 row0 row1 : BitVec 16) (order colDir rowDir : Byte) (s : State) : Taken :=
  match orderOf order, dirOf colDir, dirOf rowDir with
  | some o, some cd, some rd =>
    if 16 ≤ id.toNat then .refuse .badField s
    else match s.design? id.toNat with
      | none => .refuse .notFound s
      | some d =>
        if col1.toNat < col0.toNat ∨ d.w ≤ col1.toNat ∨ row1.toNat < row0.toNat ∨ d.h ≤ row1.toNat then .refuse .badField s
        else
          let w := Window.home { design := id.toNat, col0 := col0.toNat, col1 := col1.toNat, row0 := row0.toNat,
                                 row1 := row1.toNat, order := o, colDir := cd, rowDir := rd, row := 0, col := 0 }
          .accept (u32 w.size ++ w.cursorPayload) { s with ps.window := some w }
  | _, _, _ => .refuse .badField s

/-- DESIGN_WINDOW (R56). -/
def execDesignWindow (id : Byte) (col0 col1 row0 row1 : BitVec 16) (order colDir rowDir : Byte) (s : State) :
    Host.Outcome State Fault Refusal :=
  .next (s.takeCommand (.designWindow id col0 col1 row0 row1 order colDir rowDir)
    (takeDesignWindow id col0 col1 row0 row1 order colDir rowDir))

/-! ### Reading cells -/

/-- Cells read from the window start or from the cursor (R59). With no window set and a count outside its range the answer is NOT_FOUND, which
is the model's choice (DESIGN CHOICE, log 25). -/
def takeRead (fromStart : Bool) (count : BitVec 16) (s : State) : Taken :=
  match s.ps.window with
  | none => .refuse .notFound s
  | some w =>
    if count.toNat = 0 ∨ 2048 < count.toNat then .refuse .badField s
    else match s.design? w.design with
      | none => .refuse .notFound s
      | some d =>
        let r := readAtCursor d s.ps.cells count.toNat (if fromStart then w.home else w)
        .accept (bytes16 count ++ packCells r.1 ++ r.2.cursorPayload) { s with ps.window := some r.2 }

/-- CELLS_READ (R59). -/
def execCellsRead (count : BitVec 16) (s : State) : Host.Outcome State Fault Refusal :=
  .next (s.takeCommand (.cellsRead count) (takeRead true count))

/-- READ_MORE (R59). -/
def execReadMore (count : BitVec 16) (s : State) : Host.Outcome State Fault Refusal :=
  .next (s.takeCommand (.readMore count) (takeRead false count))

/-! ### Sums and free space -/

/-- Whether the cell at an address is a cell (r, c) of a design with c below W: no padding cell (R61). -/
def Design.holdsCell (d : Design) (a : Nat) : Bool :=
  let block := a / Config.cellsPerBlock
  decide (d.base ≤ block ∧ block < d.base + d.blocks ∧
    (block - d.base) % d.blocksPerRow * Config.cellsPerBlock + a % Config.cellsPerBlock < d.w)

/-- The sum of the colours of a design's cells; an unlisted cell adds 0. -/
def Design.cellSum (d : Design) (m : CellMem) : Nat := ((m.filter fun p => d.holdsCell p.1).map fun p => p.2.toNat).sum

/-- DESIGN_SUM on the part: BUSY is held by the summing (R61). -/
def takeDesignSum (id : Byte) (s : State) : Taken :=
  if 16 ≤ id.toNat then .refuse .badField s
  else if (s.design? id.toNat).isNone then .refuse .notFound s
  else .hold (.sum id.toNat) s

/-- DESIGN_SUM (R61). -/
def execDesignSum (id : Byte) (s : State) : Host.Outcome State Fault Refusal :=
  .next (s.takeCommand (.designSum id) (takeDesignSum id))

/-- The summing of a design ends: the sum becomes the pending response and BUSY falls (R61). -/
def State.sumDone (s : State) (id : Nat) : State :=
  match s.design? id with
  | some d => s.answer 0x38#8 .accept .plain (u16 ((d.w + d.h + d.cellSum s.ps.cells) % 65536) ++ u16 d.w ++ u16 d.h)
  | none => s

/-- SUM_DONE (R61); with no summing in progress the event does not occur (log 8). -/
def execSumDone (s : State) : Host.Outcome State Fault Refusal :=
  .next (match s.dlp.work with
    | some (.sum id) => s.sumDone id
    | _ => s)

/-- STORE_FREE on the part (R62). -/
def takeStoreFree (s : State) : Taken :=
  let longest := longestRun (freeRuns s.ps.directory)
  .accept (u32 (freeTotal s.ps.directory) ++ u32 longest.2 ++ u16 longest.1 ++ u8 (s.ps.directory.toList.countP (·.isSome))) s

/-- STORE_FREE (R62). -/
def execStoreFree (s : State) : Host.Outcome State Fault Refusal := .next (s.takeCommand .storeFree takeStoreFree)

end Sys2Proof.Machine
end

