-- ==== Sys2Proof/Machine/Weaves.lean ====
section
/-! DEFINITION. The weave and colour tables (chapter 4): weave bits, when a weave is in use, and the read commands. The writes, which
reach the staging record, stand in Edits.lean. -/

namespace Sys2Proof.Machine

/-- The bit of a weave at row y and column x (R63, R182). -/
def Weave.bit (w : Weave) (y x : Nat) : Bool := (w.rows.getD y 0#32).getLsbD (31 - x)

/-- A row word with the column positions at `ww` and above cleared (R64). -/
def keepColumns (ww : Nat) (row : BitVec 32) : BitVec 32 := row &&& (BitVec.allOnes 32 <<< (32 - ww))

/-- The present slots of a colour map. -/
def ColourMap.present (m : ColourMap) : List Slot := m.toList.flatMap fun v => v.toList.filterMap id

/-- The number of present slots of a map that name a weave. -/
def ColourMap.naming (m : ColourMap) (w : Nat) : Nat := m.present.countP fun x => x.weave = w

/-- The colour map of a design. -/
def State.map (s : State) (id : Nat) : ColourMap := tabGet s.wct.maps id .empty

/-- The number of locked designs whose maps name a weave (R67). -/
def State.lockedNaming (s : State) (w : Nat) : Nat :=
  (List.range 16).countP fun id => s.locked id ∧ 0 < (s.map id).naming w

/-- The number of sections of count above 0 and mode FIXED that name a weave (R67). -/
def State.fixedNaming (s : State) (w : Nat) : Nat :=
  s.pcm.sections.toList.countP fun x => 0 < x.c ∧ x.mode = .fixed ∧ x.weave = w

/-- Whether a composition is in flight. -/
def State.isComposing (s : State) : Bool :=
  match s.pcm.staging with
  | some ⟨_, .composing _⟩ => true
  | _ => false

/-- Whether the composition in flight has read a present slot that names a weave (R65). -/
def State.readNaming (s : State) (w : Nat) : Bool :=
  match s.pcm.staging with
  | some ⟨_, .composing ⟨some slots, _⟩⟩ => slots.any fun o => o.any fun x => x.weave = w
  | _ => false

/-- Whether a weave is in use (R65). -/
def State.weaveInUse (s : State) (w : Nat) : Bool :=
  decide (0 < s.lockedNaming w) ||
  (decide (0 < s.fixedNaming w) && (decide (s.stu.weaving ≠ .stopped) || s.isComposing)) ||
  s.readNaming w

/-- The number of weaves in use (R71). -/
def State.weavesInUse (s : State) : Nat := (List.range 32).countP fun w => s.weaveInUse w

/-- The number of colour-map slots of all present designs that name a weave (R64). -/
def State.slotsNaming (s : State) (w : Nat) : Nat :=
  ((List.range 16).map fun id => if (s.design? id).isSome then (s.map id).naming w else 0).sum

/-- A weave of the table. -/
def State.weave (s : State) (w : Nat) : Weave := tabGet s.wct.weaves w .powerOn

/-- WEAVE_READ on the part (R67). -/
def takeWeaveRead (id : Byte) (s : State) : Taken :=
  if 32 ≤ id.toNat then .refuse .badField s
  else
    let w := s.weave id.toNat
    .accept (u8 w.ww ++ u8 w.wh ++ rowBytes w.rows ++ uFlag (s.weaveInUse id.toNat) ++ u8 (s.lockedNaming id.toNat) ++
      u8 (s.fixedNaming id.toNat)) s

/-- WEAVE_READ (R67). -/
def execWeaveRead (id : Byte) (s : State) : Host.Outcome State Fault Refusal :=
  .next (s.takeCommand (.weaveRead id) (takeWeaveRead id))

/-- A slot as a response carries it (R71, R73). -/
def slotPayload (o : Option Slot) : List Byte := uOpt 4 (fun x => u8 x.weave ++ u8 x.xs ++ u8 x.ys ++ uFlag x.invert) o

/-- The four slots of one colour of a design's map. -/
def State.slots (s : State) (id colour : Nat) : Vector (Option Slot) 4 := tabGet (s.map id) colour (Vector.replicate 4 none)

/-- COLORMAP_READ on the part (R73). With a colour above 15 and no such design the answer is BAD_FIELD (DESIGN CHOICE, log 25). -/
def takeColormapRead (design colour : Byte) (s : State) : Taken :=
  if 16 ≤ design.toNat ∨ 16 ≤ colour.toNat then .refuse .badField s
  else if (s.design? design.toNat).isNone then .refuse .notFound s
  else
    let l := (s.slots design.toNat colour.toNat).toList
    .accept (l.flatMap slotPayload ++
      (l.filterMap id).flatMap fun x => u8 (s.weave x.weave).ww ++ u8 (s.weave x.weave).wh) s

/-- COLORMAP_READ (R73). -/
def execColormapRead (design colour : Byte) (s : State) : Host.Outcome State Fault Refusal :=
  .next (s.takeCommand (.colormapRead design colour) (takeColormapRead design colour))

end Sys2Proof.Machine
end

