-- ==== Sys2Proof/Machine/FaultTable.lean ====
section
/-! DEFINITION. The hook fault table (chapter 9): existing hooks, the drive mapping, learning, aging, and every command but
FAULT_PUT and FAULT_REMOVE, which stand in Edits.lean. -/

namespace Sys2Proof.Machine

/-! ### Chains and hooks (R127) -/

/-- The record of a chain. -/
def State.chain (s : State) (c : Nat) : Chain := tabGet s.hcu.chains c .powerOn

/-- The state with a chain's record changed by `f`. -/
def State.updateChain (s : State) (c : Nat) (f : Chain → Chain) : State :=
  { s with hcu.chains := tabSet s.hcu.chains c (f (s.chain c)) }

/-- The hooks a chain has: M × 64. -/
def Chain.hooks (c : Chain) : Nat := c.modules * Config.hooksPerModule

/-- Whether a hook exists: its module is below the module count of its chain. -/
def State.hookExists (s : State) (h : Nat) : Bool :=
  decide (h < Config.hookCount ∧ h % Config.hooksPerChain < (s.chain (h / Config.hooksPerChain)).hooks)

/-! ### Entries -/

/-- The entry of a hook. -/
def Hft.find (t : Hft) (h : Nat) : Option FaultEntry := t.entries.find? fun e => e.hook = h

/-- The substitute of an entry, when it is STATIC SUBSTITUTE. -/
def FaultEntry.spare (e : FaultEntry) : Option Nat :=
  match e.kind with
  | .fixed (.substitute x) => some x
  | .fixed .park => none
  | .learned _ _ => none

/-- The entry whose substitute a hook is. -/
def Hft.substituted (t : Hft) (h : Nat) : Option FaultEntry := t.entries.find? fun e => e.spare = some h

/-- Whether an entry is LEARNED. -/
def FaultEntry.isLearned (e : FaultEntry) : Bool :=
  match e.kind with
  | .learned _ _ => true
  | .fixed _ => false

/-- An entry put into its place in ascending order of key, replacing the hook's own (R143). -/
def putEntry (e : FaultEntry) : List FaultEntry → List FaultEntry
  | [] => [e]
  | x :: rest => if e.hook < x.hook then e :: x :: rest else if e.hook = x.hook then e :: rest else x :: putEntry e rest

/-! ### The drive mapping (R144) -/

/-- Whether a chain counts as ACTIVE for a mapping; a presentation counts its own chain in (R131, R145). -/
def State.drives (s : State) (presenting : Option (Fin 4)) (c : Nat) : Bool :=
  decide ((s.chain c).state = .active) || presenting.any fun x => x.val = c

/-- δ of a hook that exists (R144). -/
def State.driveValue (s : State) (presenting : Option (Fin 4)) (lift : Lift) (h : Nat) : Bool :=
  if s.drives presenting (h / Config.hooksPerChain) then
    match s.hft.find h with
    | some ⟨_, .fixed _, _, _⟩ => false
    | _ => match s.hft.substituted h with
      | some e => s.hookExists e.hook && lift.getLsbD e.hook
      | none => lift.getLsbD h
  else false

/-- The number whose bits below `n` are those of `p`. -/
def bitsBelow (p : Nat → Bool) : Nat → Nat
  | 0 => 0
  | n + 1 => bitsBelow p n + if p n then 2 ^ n else 0

/-- A chain's share of the drive vector of a lift (R132, R144). -/
def State.driveShare (s : State) (presenting : Option (Fin 4)) (lift : Lift) (c : Nat) : Share :=
  BitVec.ofNat 3072 (bitsBelow (fun i => s.driveValue presenting lift (c * Config.hooksPerChain + i)) (s.chain c).hooks)

/-! ### Learning (section 9.3) -/

/-- After a creation or refresh: the entry asks for a stop once its count reaches the threshold (R148). -/
def State.askStop (s : State) (h : Nat) : State :=
  match s.hft.find h with
  | some ⟨_, .learned age false, count, sense⟩ =>
    if s.hft.threshold ≠ 0 ∧ s.hft.threshold ≤ count then
      { s.requestStop .hookFault with hft.entries := putEntry ⟨h, .learned age true, count, sense⟩ s.hft.entries }
    else s
  | _ => s

/-- A report that creates no entry because the table is full (R147). -/
def State.missFull (s : State) : State :=
  { s.raise .faultTableFull with hft.fullMisses := bump s.hft.fullMisses }

/-- A report that creates a LEARNED entry (R146). -/
def State.learn (s : State) (h : Nat) (sense : Sense) : State :=
  let s := { s with hft.entries := putEntry ⟨h, .learned true false, 1, some sense⟩ s.hft.entries }
  State.askStop { s.raise .hookLearned with evs.learned := some (h, sense) } h

/-- A mismatch report on a hook (R146, R147). -/
def State.reportMismatch (s : State) (r : Nat × Sense) : State :=
  match s.hft.find r.1 with
  | some ⟨_, .learned _ sent, count, _⟩ =>
    State.askStop
      { s with hft.entries := putEntry ⟨r.1, .learned true sent, min (count + 1) 255, some r.2⟩ s.hft.entries } r.1
  | some ⟨_, .fixed _, _, _⟩ => s
  | none =>
    if (s.hft.substituted r.1).isSome then { s with hft.spareMismatch := bump s.hft.spareMismatch }
    else if s.hft.entries.length < Config.faultCapacity then s.learn r.1 r.2
    else s.missFull

/-- The mismatches of an echo against an image, in ascending order of hook (R134). -/
def mismatches (c : Nat) (hooks : Nat) (image sensed : Share) : List (Nat × Sense) :=
  ((List.range hooks).filter fun i => image.getLsbD i != sensed.getLsbD i).map fun i =>
    (c * Config.hooksPerChain + i, if sensed.getLsbD i then Sense.stuckUp else Sense.stuckDown)

/-- The echo comparison at a passing completion: mismatches counted, then reported (R134, R146). -/
def State.compareEcho (s : State) (c : Nat) (sensed : Share) : State :=
  let l := mismatches c (s.chain c).hooks (s.chain c).image sensed
  l.foldl State.reportMismatch
    { s with evs.chains.echoMismatch := countAt s.evs.chains.echoMismatch c l.length }

/-! ### Aging (R149) -/

/-- An entry after an aging pass; none when it is removed. -/
def FaultEntry.age (e : FaultEntry) : Option FaultEntry :=
  match e.kind with
  | .learned true sent => some { e with kind := .learned false sent }
  | .learned false _ => none
  | .fixed _ => some e

/-- The aging counter returns to 0 and every LEARNED entry is passed (R149). -/
def State.agingPass (s : State) : State :=
  { s with hft.agingCounter := 0, hft.entries := s.hft.entries.filterMap FaultEntry.age }

/-- One woven pick counts; the pass is made in the same event when the counter reaches the period (R149). -/
def State.countAging (s : State) : State :=
  if s.hft.agingPeriod ≤ s.hft.agingCounter + 1 then s.agingPass
  else { s with hft.agingCounter := s.hft.agingCounter + 1 }

/-- AGING_PASS (R149): the row is the pass itself, and makes it when it is sent; a latch that brings the counter to the period makes
its pass in its own event (log 8). -/
def execAgingPass (s : State) : Host.Outcome State Fault Refusal := .next s.agingPass

/-! ### Commands -/

/-- An entry as a response carries it: every field of R143's table (log 6). The two spare bytes of a PARK action are 0, whatever the command
that stored it carried (DESIGN CHOICE, log 6). -/
def FaultEntry.payload (e : FaultEntry) : List Byte :=
  let action : Option FaultAction := match e.kind with | .fixed a => some a | .learned _ _ => none
  let code : FaultAction → List Byte := fun a => match a with | .park => u8 0 ++ u16 0 | .substitute x => u8 1 ++ u16 x
  let age := match e.kind with | .learned a _ => a | .fixed _ => false
  let sent := match e.kind with | .learned _ b => b | .fixed _ => false
  u16 e.hook ++ u8 (if e.isLearned then 0 else 1) ++ uOpt 3 code action ++ uFlag age ++ u8 e.count ++
    uOpt 1 (fun (x : Sense) => u8 x.code) e.sense ++ uFlag sent

/-- The numbers of LEARNED and of STATIC entries. -/
def Hft.counts (t : Hft) : List Byte := u8 (t.entries.countP (·.isLearned)) ++ u8 (t.entries.countP fun e => !e.isLearned)

/-- The answer of a walk: the entry with its key as the new position, or the end of the table (R152). -/
def walkTo (e : Option FaultEntry) (s : State) : Taken :=
  let s' := match e with
    | some x => { s with hft.position := some x.hook }
    | none => s
  .accept (uOpt 12 FaultEntry.payload e ++ s.hft.counts) s'

/-- FAULT_FIRST on the part (R152). -/
def takeFaultFirst (s : State) : Taken := walkTo s.hft.entries.head? s

/-- FAULT_FIRST (R152). -/
def execFaultFirst (s : State) : Host.Outcome State Fault Refusal := .next (s.takeCommand .faultFirst takeFaultFirst)

/-- FAULT_NEXT on the part (R152). -/
def takeFaultNext (s : State) : Taken :=
  match s.hft.position with
  | none => .refuse .notFound s
  | some p => walkTo (s.hft.entries.find? fun e => p < e.hook) s

/-- FAULT_NEXT (R152). -/
def execFaultNext (s : State) : Host.Outcome State Fault Refusal := .next (s.takeCommand .faultNext takeFaultNext)

/-- AGING_PERIOD on the part (R149). -/
def takeAgingPeriod (period : BitVec 16) (s : State) : Taken :=
  let p := max period.toNat 256
  .acceptClamped (decide (period.toNat < 256)) (u16 p) { s with hft.agingPeriod := p, hft.agingCounter := 0 }

/-- AGING_PERIOD (R149). -/
def execAgingPeriod (period : BitVec 16) (s : State) : Host.Outcome State Fault Refusal :=
  .next (s.takeCommand (.agingPeriod period) (takeAgingPeriod period))

/-- FAULT_STOP on the part (R153). -/
def takeFaultStop (threshold : Byte) (s : State) : Taken := .accept [threshold] { s with hft.threshold := threshold.toNat }

/-- FAULT_STOP (R153). -/
def execFaultStop (threshold : Byte) (s : State) : Host.Outcome State Fault Refusal :=
  .next (s.takeCommand (.faultStop threshold) (takeFaultStop threshold))

/-- The number of LEARNED entries with stop sent set (R153). -/
def Hft.asked (t : Hft) : Nat :=
  t.entries.countP fun e => match e.kind with | .learned _ sent => sent | .fixed _ => false

/-- FAULT_INFO on the part (R153). The aging counter is sent as a number of 2 bytes (DESIGN CHOICE, log 11). -/
def takeFaultInfo (clear : Byte) (s : State) : Taken :=
  match flagOf clear with
  | none => .refuse .badField s
  | some c =>
    let s' := if c then { s with hft.fullMisses := 0#32, hft.spareMismatch := 0#32 } else s
    .accept (s.hft.counts ++ u16 s.hft.agingPeriod ++ u16 s.hft.agingCounter ++ u8 s.hft.threshold ++ u8 s.hft.asked ++
      bytes32 s.hft.fullMisses ++ bytes32 s.hft.spareMismatch) s'

/-- FAULT_INFO (R153). -/
def execFaultInfo (clear : Byte) (s : State) : Host.Outcome State Fault Refusal :=
  .next (s.takeCommand (.faultInfo clear) (takeFaultInfo clear))

end Sys2Proof.Machine
end

