-- ==== Sys2Proof/Machine/Floats.lean ====
section
/-! DEFINITION. The float limiter (chapter 6): the warp stage and the weft scan of one section, run counters and their rebuilding,
the float histogram, RUN_COUNTERS_READ. FLOAT_LIMITS stands in Edits.lean. -/

namespace Sys2Proof.Machine

/-- The run counter of a hook; a hook not listed has 0 (R100). -/
def runOf (runs : Runs) (h : Nat) : Nat :=
  match runs with
  | [] => 0
  | (k, n) :: rest => if k = h then n else runOf rest h

/-- The hooks a lift raises, in ascending order. -/
def raisedHooks (l : Lift) : List Nat := (List.range Config.hookCount).filter fun h => l.getLsbD h

/-- Whether the warp limit bars a hook from being raised: Lwarp is not 0 and its run counter equals it (R101, R102). -/
def barred (lwarp : Nat) (runs : Runs) (h : Nat) : Bool := decide (lwarp ≠ 0 ∧ runOf runs h = lwarp)

/-! ### The float stage on one section (section 6.2) -/

/-- What the float stage leaves of one section: the lift values of its hooks in order, and its three counts. -/
structure SectionFloat where
  bits : List Bool
  down : Nat
  up : Nat
  unresolved : Nat
  deriving DecidableEq, Repr

/-- The warp stage on the hooks from `h` on: the lowered values and the number forced down (R101). -/
def warpStage (bar : Nat → Bool) : Nat → List Bool → List Bool × Nat
  | _, [] => ([], 0)
  | h, b :: rest =>
    let x := warpStage bar (h + 1) rest
    if b && bar h then (false :: x.1, x.2 + 1) else (b :: x.1, x.2)

/-- 1 when a run has grown past Lw: it is counted as unresolved where it ends (R102). -/
def overrun (lw run : Nat) : Nat := if lw < run then 1 else 0

/-- The weft scan on the hooks from `h` on, after `run` lowered hooks (R102). -/
def weftScan (lw : Nat) (bar : Nat → Bool) : Nat → Nat → List Bool → SectionFloat
  | _, run, [] => { bits := [], down := 0, up := 0, unresolved := overrun lw run }
  | h, run, true :: rest =>
    let x := weftScan lw bar (h + 1) 0 rest
    { x with bits := true :: x.bits, unresolved := overrun lw run + x.unresolved }
  | h, run, false :: rest =>
    if run < lw ∨ bar h then
      let x := weftScan lw bar (h + 1) (run + 1) rest
      { x with bits := false :: x.bits }
    else
      let x := weftScan lw bar (h + 1) 0 rest
      { x with bits := true :: x.bits, up := x.up + 1, unresolved := overrun lw run + x.unresolved }

/-- The float stage on one section: the warp stage, then the weft scan where Lw is not 0 (R101, R102). -/
def floatSection (bar : Nat → Bool) (sec : Section) (bits : List Bool) : SectionFloat :=
  let w := warpStage bar sec.f bits
  if sec.lw = 0 then { bits := w.1, down := w.2, up := 0, unresolved := 0 }
  else { weftScan sec.lw bar sec.f 0 w.1 with down := w.2 }

/-- The staging run counters of a composed lift (R103). -/
def promoted (l : Lift) (runs : Runs) : Runs := (raisedHooks l).map fun h => (h, min (runOf runs h + 1) 32)

/-! ### Warp floats that end (R104, R105) -/

/-- The histogram with the warp floats that end when a lift is latched over some run counters (R104). -/
def FloatStats.endFloats (x : FloatStats) (l : Lift) (runs : Runs) : FloatStats :=
  runs.foldl (fun y r => if l.getLsbD r.1 = false ∧ 0 < r.2 then y.countFloat r.2 else y) x

/-- The counts of a latched record are added (R104). -/
def FloatStats.addCounts (x : FloatStats) (p : Pick) : FloatStats :=
  { x with forcedDown := satAdd x.forcedDown p.forcedDown, forcedUp := satAdd x.forcedUp p.forcedUp,
           unresolved := satAdd x.unresolved p.unresolved }

/-- The float limiter's share of a pick latch: floats end, counters are promoted, counts are added, FLOAT_UNRESOLVED (R104). -/
def State.latchFloats (s : State) (p : Pick) (runs : Runs) : State :=
  let s := { s with evs.floats := (s.evs.floats.endFloats p.lift s.flm.runs).addCounts p, flm.runs := runs }
  if 0 < p.unresolved then s.raise .floatUnresolved else s

/-- The float limiter's share of the level shed: every running warp float ends and every counter is 0 (R105). -/
def State.levelFloats (s : State) : State :=
  { s with evs.floats := s.evs.floats.endFloats 0#12288 s.flm.runs, flm.runs := [] }

/-! ### Rebuilding (R107) -/

/-- The cap of a rebuild: Lwarp, or 32 when Lwarp is 0. -/
def runCap (lwarp : Nat) : Nat := if lwarp = 0 then 32 else lwarp

/-- A counter worked out from the records newest first: the records with λ = 1 before the first with λ = 0, at most the cap; a run
that reaches the old end with the origin flag clear is as long as the cap (R107). -/
def countBack (cap : Nat) (origin : Bool) (h : Nat) : List Pick → Nat
  | [] => if origin then 0 else cap
  | p :: rest => if p.lift.getLsbD h then min cap (countBack cap origin h rest + 1) else 0

/-- The shed run counters worked out afresh from the shed record and the ring (R107). -/
def rebuiltRuns (ph : Ph) (lwarp : Nat) : Runs :=
  match ph.shed with
  | none => []
  | some p => (raisedHooks p.lift).map fun h => (h, countBack (runCap lwarp) ph.origin h (p :: ph.ring.reverse))

/-- The shed run counters are rebuilt (R107). -/
def State.rebuildRuns (s : State) : State := { s with flm.runs := rebuiltRuns s.ph s.flm.lwarp }

/-! ### RUN_COUNTERS_READ -/

/-- RUN_COUNTERS_READ on the part (R110). No count field precedes the counters (DESIGN CHOICE, log 11). -/
def takeRunCountersRead (first count : BitVec 16) (s : State) : Taken :=
  if Config.hookCount ≤ first.toNat ∨ count.toNat = 0 ∨ 512 < count.toNat ∨ Config.hookCount < first.toNat + count.toNat then
    .refuse .badField s
  else
    let staged := match s.pcm.staging with
      | none => false
      | some ⟨_, .composing _⟩ => false
      | some _ => true
    .accept ((List.range count.toNat).flatMap (fun i => u8 (runOf s.flm.runs (first.toNat + i))) ++ u8 s.flm.lwarp ++
      uFlag s.ph.shed.isSome ++ uFlag staged) s

/-- RUN_COUNTERS_READ (R110). -/
def execRunCountersRead (first count : BitVec 16) (s : State) : Host.Outcome State Fault Refusal :=
  .next (s.takeCommand (.runCountersRead first count) (takeRunCountersRead first count))

end Sys2Proof.Machine
end

