-- ==== Sys2Proof/Machine/Compose.lean ====
section
/-! DEFINITION. Pick composition (chapter 5): beginning a composition, its reads, the arithmetic of the lift, its end, and the discard
of a staging record; SECTION_READ. SECTION_WRITE stands in Edits.lean. -/

namespace Sys2Proof.Machine

/-! ### The arithmetic (section 5.4) -/

/-- The row ordinal q of pick t (R86). -/
def StepRec.rowOrdinal (r : StepRec) (t : Nat) : Nat := t / r.p

/-- The design row of pick t (R86). -/
def StepRec.designRow (r : StepRec) (t : Nat) : Nat :=
  let u := r.rowOrdinal t % r.period
  match r.vmode with
  | .straight => r.rowFirst + u
  | .point => if u < r.rangeRows then r.rowFirst + u else r.rowFirst + (2 * r.rangeRows - 2 - u)

/-- The global row counter R of pick t (R87). -/
def StepRec.rowCounter (r : StepRec) (t : Nat) : BitVec 32 := r.rowBase.getD 0#32 + BitVec.ofNat 32 (r.rowOrdinal t)

/-- The design column of offset j in a DESIGN section (R88). -/
def Section.column (x : Section) (w j : Nat) : Nat :=
  match x.hmode with
  | .straight => (x.o + j) % w
  | .point =>
    let m := (x.o + j) % max 1 (2 * w - 2)
    if m < w then m else 2 * w - 2 - m

/-- What the lift of one pick is worked out from: the design and its row, R, G, slot k of each colour as the map read found it,
and the weave table. -/
structure Composition where
  design : Design
  row : Nat
  counter : Nat
  g : Nat
  slots : List (Option Slot)
  weaves : Vector Weave 32

/-- The binding of a slot at offset j (R69, R89). -/
def Composition.slotBit (x : Composition) (slot : Slot) (j : Nat) : Bool :=
  let w := tabGet x.weaves slot.weave .powerOn
  w.bit ((x.counter + slot.ys) % w.wh) ((j + slot.xs) % w.ww) != slot.invert

/-- λ of offset j of a section before the float stage (R85, R89 to R91); `cells` is what the section's row read found. -/
def Composition.liftBit (x : Composition) (cells : CellMem) (sec : Section) (j : Nat) : Bool :=
  match sec.mode with
  | .design =>
    match x.slots.getD (readCell cells (x.design.cellAddr x.row (sec.column x.design.w j))).toNat none with
    | some slot => x.slotBit slot j
    | none => false
  | .fixed =>
    let w := tabGet x.weaves sec.weave .powerOn
    w.bit (x.g % w.wh) (j % w.ww)
  | .parked => false

/-- The lift values of a section's hooks in order, before the float stage. -/
def Composition.sectionBits (x : Composition) (cells : CellMem) (sec : Section) : List Bool :=
  (List.range sec.c).map (x.liftBit cells sec)

/-- The number whose bits from `f` on are those of a list. -/
def packFrom (f : Nat) : List Bool → Nat
  | [] => 0
  | b :: rest => (if b then 2 ^ f else 0) + packFrom (f + 1) rest

/-- The sections with what their row reads found, reads in section order. -/
def pairReads : List Section → List CellMem → List (Section × CellMem)
  | [], _ => []
  | x :: rest, rows =>
    if 0 < x.c ∧ x.mode = .design then (x, rows.headD []) :: pairReads rest rows.tail
    else (x, []) :: pairReads rest rows

/-! ### The reads of a composition (R60, R70, R82) -/

/-- The number of DESIGN sections of count above 0: the row reads of a composition. -/
def State.designSections (s : State) : Nat := s.pcm.sections.toList.countP fun x => 0 < x.c ∧ x.mode = .design

/-- The step of a pick, when the queue holds it. -/
def State.pickStep (s : State) (p : Pick) : Option StepRec := s.step? p.seq

/-- The design of a pick's step. -/
def State.pickDesign (s : State) (p : Pick) : Option Nat := (s.pickStep p).map (·.design)

/-- The map read taken now: slot k of each of the 16 colours of a design (R70). -/
def State.readSlots (s : State) (id k : Nat) : List (Option Slot) :=
  (List.range 16).map fun colour => tabGet (s.slots id colour) k none

/-- A row read taken now: the cells of the blocks of one row of a design (R60). -/
def State.readRow (s : State) (id row : Nat) : CellMem :=
  match s.design? id with
  | some d =>
    let first := (d.base + row * d.blocksPerRow) * Config.cellsPerBlock
    s.ps.cells.filter fun c => first ≤ c.1 ∧ c.1 < first + d.blocksPerRow * Config.cellsPerBlock
  | none => []

/-- The reads of a composition when `target` of them are taken, the ones not taken before finding the state as it is now. -/
def State.readsTo (s : State) (p : Pick) (target : Nat) (r : Reads) : Reads :=
  match target with
  | 0 => r
  | rows + 1 =>
    let id := (s.pickDesign p).getD 0
    { slots := some (r.slots.getD (s.readSlots id p.k))
      rows := r.rows ++ List.replicate (min rows s.designSections - r.rows.length) (s.readRow id p.row) }

/-- The composition in flight has taken `target` of its reads. -/
def State.readAhead (s : State) (target : Nat) : State :=
  match s.pcm.staging with
  | some ⟨p, .composing r⟩ => { s with pcm.staging := some ⟨p, .composing (s.readsTo p target r)⟩ }
  | _ => s

/-- Before a write to a design, the composition in flight on that design has taken a free number of its reads (R60, R70, R84;
log 3). -/
def State.settleReads (s : State) (id : Nat) : State :=
  match s.pcm.staging with
  | some ⟨p, .composing _⟩ =>
    if s.pickDesign p = some id then { s.readAhead (Config.composerReads s.free) with free := s.free + 1 } else s
  | _ => s

/-! ### Beginning and ending (R81, R82) -/

/-- The record of pick t of a step as its composition begins: G, seq, t, row, k and logical weft (R78, R80, R81). -/
def State.newPick (s : State) (r : StepRec) (t : Nat) : Pick :=
  { g := s.nextG, seq := r.seq, t := t, row := r.designRow t, k := t % r.p, weft := s.logicalWeft r.seq t, channel := none,
    lift := 0#12288, forcedDown := 0, forcedUp := 0, unresolved := 0 }

/-- A composition begins: the question, a starved step's extension, an opening, the record, the channel check (R81, R165); with no
successor the indication is set, and a shed that there is becomes the shed marked last (R33, R83). -/
def State.beginComposition (s : State) : State :=
  match s.nextAnswer with
  | .noSuccessor => { s with pcm.programEnd := true, pcm.marked := s.ph.shed.isSome }
  | .pick seq t starved =>
    let s := if starved then s.extendStep seq else s
    let s := s.enterStep seq
    match s.step? seq with
    | some r =>
      State.checkChannel
        { s with pcm.staging := some ⟨s.newPick r t, .composing { slots := none, rows := [] }⟩, pcm.programEnd := false,
                 pcm.marked := false }
    | none => s

/-- What a composition whose reads are all taken works from. -/
def State.composition (s : State) (p : Pick) (r : Reads) : Composition :=
  let step := s.pickStep p
  { design := ((step.bind fun x => s.design? x.design).getD { w := 1, h := 1, base := 0, liveEdit := false })
    row := p.row
    counter := ((step.map fun x => x.rowCounter p.t).getD 0#32).toNat
    g := p.g.toNat
    slots := r.slots.getD []
    weaves := s.wct.weaves }

/-- Every section of count above 0 with what the float stage leaves of it (R82, steps 3 and 4). -/
def State.floated (s : State) (p : Pick) (r : Reads) : List (Section × SectionFloat) :=
  let x := s.composition p r
  ((pairReads s.pcm.sections.toList r.rows).filter fun y => 0 < y.1.c).map fun y =>
    (y.1, floatSection (barred s.flm.lwarp s.flm.runs) y.1 (x.sectionBits y.2 y.1))

/-- λ of a pick: the float stage's values on the hooks of sections, 0 elsewhere (R85, R91). -/
def liftOf (l : List (Section × SectionFloat)) : Lift :=
  l.foldl (fun acc y => acc ||| BitVec.ofNat 12288 (packFrom y.1.f y.2.bits)) 0#12288

/-- The composed record: λ and the three counts (R103). -/
def composedPick (p : Pick) (l : List (Section × SectionFloat)) : Pick :=
  { p with lift := liftOf l
           forcedDown := (l.map fun y => y.2.down).sum
           forcedUp := (l.map fun y => y.2.up).sum
           unresolved := (l.map fun y => y.2.unresolved).sum }

/-- A composition ends: its remaining reads, the lift, the float stage, the staging run counters; the record is COMPOSED (R82,
R103). -/
def State.endComposition (s : State) (p : Pick) (r : Reads) : State :=
  let r := s.readsTo p (s.designSections + 1) r
  let p := composedPick p (s.floated p r)
  { s with pcm.staging := some ⟨p, .composed (promoted p.lift s.flm.runs)⟩ }

/-! ### Transfers begin (R132) -/

/-- A chain begins to shift its share of a drive vector. -/
def Chain.begin (c : Chain) (work : ShiftWork) (drive : Share) : Chain := { c with shift := some { work, drive, done := false } }

/-- Whether some chain still shifts for a work. -/
def State.shifting (s : State) (work : ShiftWork) : Bool :=
  s.hcu.chains.toList.any fun c => c.shift.any fun x => x.work = work ∧ x.done = false

/-- Every ACTIVE chain begins to shift its share of the drive vector of a lift (R132, R121). -/
def State.shiftAll (s : State) (work : ShiftWork) (lift : Lift) : State :=
  let start := fun i (c : Chain) => if c.state = .active then c.begin work (s.driveShare none lift i) else c
  { s with hcu.chains := tabMap start s.hcu.chains }

/-- The record is TRANSFERRED once no chain still shifts for its transfer (R132, R133). -/
def State.finishTransfer (s : State) : State :=
  match s.pcm.staging with
  | some ⟨p, .transferring runs⟩ =>
    if s.shifting .transfer then s else { s with pcm.staging := some ⟨p, .transferred runs⟩ }
  | _ => s

/-- A transfer of the staging record begins when the transfer is due, the record COMPOSED and the state RUNNING (R132). -/
def State.tryTransfer (s : State) : State :=
  match s.pcm.staging with
  | some ⟨p, .composed runs⟩ =>
    if s.stu.weaving = .running ∧ s.hcu.transferDue then
      State.finishTransfer { s.shiftAll .transfer p.lift with pcm.staging := some ⟨p, .transferring runs⟩ }
    else s
  | _ => s

/-- COMPOSITION_END (R82, R132); with no composition in flight the event does not occur (log 8). -/
def execCompositionEnd (s : State) : Host.Outcome State Fault Refusal :=
  .next (match s.pcm.staging with
    | some ⟨p, .composing r⟩ => (s.endComposition p r).tryTransfer
    | _ => s)

/-! ### Discards (section 5.5) -/

/-- A transfer is abandoned: the chains that shift or hold a share for it take no strobe of it (R14, R94, R139). -/
def Chain.dropTransfer (c : Chain) : Chain :=
  if c.shift.any fun x => x.work = .transfer then { c with shift := none } else c

/-- The staging record, if there is one, is discarded in whatever state it is; its step is handled by R40 (R79, R106). -/
def State.discardStaging (s : State) : State :=
  match s.pcm.staging with
  | some st =>
    State.returnStep
      { s with pcm.staging := none, hcu.chains := tabMap (fun _ c => c.dropTransfer) s.hcu.chains } st.pick.seq
  | none => s

/-- An event of the staging invalidation list: a record COMPOSED, TRANSFERRING or TRANSFERRED is discarded, and in RUNNING a new
composition begins at once (R93, R94, R96). -/
def State.invalidate (s : State) : State :=
  match s.pcm.staging with
  | none => s
  | some ⟨_, .composing _⟩ => s
  | some _ => if s.stu.weaving = .running then s.discardStaging.beginComposition else s.discardStaging

/-- Work in flight after a synchronous stop is abandoned before a command of R95 takes effect (R95). -/
def State.abandonWork (s : State) : State :=
  match s.pcm.staging with
  | some ⟨_, .composing _⟩ => s.discardStaging
  | some ⟨_, .transferring _⟩ => s.discardStaging
  | _ => s

/-! ### Sections -/

/-- A section of the table. -/
def State.section (s : State) (i : Nat) : Section := tabGet s.pcm.sections i .powerOn

/-- The hooks that a section and a chain number share. -/
def Section.onChain (x : Section) (c : Nat) : Nat :=
  min (x.f + x.c) ((c + 1) * Config.hooksPerChain) - max x.f (c * Config.hooksPerChain)

/-- A section as a response carries it. -/
def Section.payload (x : Section) : List Byte :=
  u16 x.f ++ u16 x.c ++ u8 x.mode.code ++ u8 x.hmode.code ++ u16 x.o ++ u8 x.weave ++ u8 x.lw

/-- The number of a section's hooks on ACTIVE chains (R77). -/
def State.activeHooks (s : State) (x : Section) : Nat :=
  ((List.range 4).map fun c => if (s.chain c).state = .active then x.onChain c else 0).sum

/-- SECTION_READ on the part (R77). -/
def takeSectionRead (index : Byte) (s : State) : Taken :=
  if 8 ≤ index.toNat then .refuse .badField s
  else .accept ((s.section index.toNat).payload ++ u16 (s.activeHooks (s.section index.toNat))) s

/-- SECTION_READ (R77). -/
def execSectionRead (index : Byte) (s : State) : Host.Outcome State Fault Refusal :=
  .next (s.takeCommand (.sectionRead index) (takeSectionRead index))

end Sys2Proof.Machine
end

