-- ==== Sys2Proof/Machine/Stops.lean ====
section
/-! DEFINITION. Entering STOPPED, stops and hard stops (section 1.4), and the loom link messages RUN, STOP, FIND, RELEASE_WAIT and
STATUS_ASK with the expiry of a wait. -/

namespace Sys2Proof.Machine

/-! ### Stops -/

/-- STOPPED is entered from RUNNING or FINDING: the STOPPED flag is raised and its sync sources occur (R10). -/
def State.enterStopped (s : State) : State :=
  ({ s with stu.weaving := .stopped }.raise .stopped).occur .stopped

/-- The effects of R14 on a part in RUNNING: work abandoned, the staging record discarded, the finger's wait cancelled. -/
def State.immediateStop (s : State) : State :=
  ({ s with stu.weaving := .stopped }.discardStaging.stopFinger).enterStopped

/-- The effects of R15 on a part in RUNNING: work in flight goes on. -/
def State.synchronousStop (s : State) : State := s.stopFinger.enterStopped

/-- The last stop record is written and the stops counter of the cause increments (R13, R18). -/
def State.recordStop (s : State) (r : LastStop) : State :=
  { s with stu.lastStop := some r, evs.stops := s.evs.stops.count r.cause }

/-- A hard stop; `notify` is false only for the CHAIN_FAULT that ends a re-presentation (R18, R123). -/
def State.hardStop (s : State) (cause : Cause) (notify : Bool) : State :=
  let s := match s.stu.weaving with
    | .running => s.immediateStop
    | .stopped => s.discardStaging
    | .finding => s.enterStopped
  let s := if notify then s.send (.stopRequest cause) else s
  s.recordStop { cause, channel := none, mode := .immediate }

/-! ### Message answers -/

/-- A refusal of a message on the loom link (R186). -/
def State.refuseMessage (s : State) (kind : Byte) (why : Reason) : State := s.send (.refused kind why)

/-- A complete message is taken from the receive buffer, which is then empty (R185). -/
def State.messageTaken (s : State) : State := { s with llp.received := [] }

/-! ### RUN (R11, R12) -/

/-- The chains' condition of R11: at least one is configured and every configured chain is ACTIVE. -/
def State.chainsReady (s : State) : Bool :=
  s.hcu.chains.toList.any (fun c => c.state ≠ .disabled) && s.hcu.chains.toList.all fun c => c.state = .disabled ∨ c.state = .active

/-- The first condition of R11 that fails, if one does. -/
def State.runRefusal (s : State) : Option Reason :=
  if s.stu.weaving = .running then some .wrongState
  else if s.ph.representing.isSome then some .busy
  else if s.stu.active.compose ≤ s.stu.position.val then some .notAtStart
  else if s.pq.steps.all (fun r => r.state = .closed) then some .noProgram
  else if s.chainsReady then none else some .chainNotReady

/-- The armed flags after RUN: the events whose angle lies above the position (R12). -/
def AngleSet.armedAbove (a : AngleSet) (position : Nat) : Armed :=
  { compose := decide (position < a.compose), transfer := decide (position < a.transfer), latch := decide (position < a.latch),
    weftRelease := decide (position < a.weftRelease), weftSelect := decide (position < a.weftSelect) }

/-- RUN taken: the finger for the shed, RUNNING, re-arming, the transfer-due flag clear, the next composition asking afresh, RUN_ACK
(R12, R132, R167, R33). -/
def State.startRunning (s : State) : State :=
  let s := s.runFinger
  State.send
    { s with stu.weaving := .running, stu.armed := s.stu.active.armedAbove s.stu.position.val, hcu.transferDue := false,
             pcm.marked := false }
    .runAck

/-- RUN as its owner takes it (R11, R12). -/
def State.takeRun (s : State) : State :=
  match s.runRefusal with
  | some why => s.refuseMessage 0x01#8 why
  | none => s.startRunning

/-- RUN (R11, R12). -/
def execRun (s : State) : Host.Outcome State Fault Refusal := .next s.messageTaken.takeRun

/-! ### STOP (R13 to R16) -/

/-- The mode the stop-mode table holds for a cause of the loom controller (R13). -/
def StopModes.mode (m : StopModes) : Cause → StopMode
  | .weftBreak => m.weftBreak
  | .warpBreak => m.warpBreak
  | .operator => m.operator
  | _ => m.external

/-- The cause a STOP is taken with: a code outside 1..4 is EXTERNAL (R13). -/
def stopCause (cause : Byte) : Cause := (loomCauseOf cause).getD .external

/-- The channel a STOP is taken with: present only with WEFT_BREAK and when it is 0..7 (R13). -/
def stopChannel (cause channel : Byte) : Option Nat :=
  if loomCauseOf cause = some .weftBreak ∧ channel.toNat < 8 then some channel.toNat else none

/-- Whether a STOP's cause or channel is substituted (R13). -/
def stopClamped (cause channel : Byte) : Bool :=
  (loomCauseOf cause).isNone || (decide (loomCauseOf cause = some .weftBreak) && decide (8 ≤ channel.toNat ∧ channel.toNat < 255))

/-- What a STOP of a mode does to the weaving (R14 to R16). -/
def State.applyStop (s : State) (mode : StopMode) : State :=
  match s.stu.weaving, mode with
  | .running, .immediate => s.immediateStop
  | .running, .synchronous => s.synchronousStop
  | .finding, _ => s.enterStopped
  | .stopped, _ => s

/-- STOP as its owner takes it (R13). -/
def State.takeStop (s : State) (cause channel : Byte) : State :=
  let c := stopCause cause
  let mode := s.stu.modes.mode c
  ((s.applyStop mode).recordStop { cause := c, channel := stopChannel cause channel, mode }).sendState (stopClamped cause channel)

/-- STOP (R13 to R16). -/
def execStop (cause channel : Byte) (s : State) : Host.Outcome State Fault Refusal :=
  .next (s.messageTaken.takeStop cause channel)

/-! ### FIND (R17) -/

/-- FIND as its owner takes it: taken in STOPPED, the work and the staging record discarded, the finger released (R17, R166). -/
def State.takeFind (s : State) : State :=
  if s.stu.weaving = .stopped then
    State.sendState { s.discardStaging.findFinger with stu.weaving := .finding } false
  else s.refuseMessage 0x03#8 .wrongState

/-- FIND (R17). -/
def execFind (s : State) : Host.Outcome State Fault Refusal := .next s.messageTaken.takeFind

/-! ### RELEASE_WAIT, STATUS_ASK, the expiry of a wait -/

/-- RELEASE_WAIT as its owner takes it (R24). -/
def State.takeReleaseWait (s : State) : State :=
  (State.failWait { s with stu.sync0 := true, stu.sync1 := true } .released).sendState false

/-- RELEASE_WAIT (R24). -/
def execReleaseWait (s : State) : Host.Outcome State Fault Refusal := .next s.messageTaken.takeReleaseWait

/-- STATUS_ASK (R186). -/
def execStatusAsk (s : State) : Host.Outcome State Fault Refusal := .next (s.messageTaken.sendState false)

/-- WAIT_TIMEOUT: the expiry answers the pending wait, or finds no wait (R23, R24). -/
def execWaitTimeout (s : State) : Host.Outcome State Fault Refusal := .next (s.failWait .timeout)

/-- PACKAGE_OUT as its owner takes it (R159). -/
def State.takePackageOut (s : State) (channel : Byte) : State :=
  if 8 ≤ channel.toNat then s.refuseMessage 0x05#8 .badField else (s.channelOut channel.toNat).sendState false

/-- PACKAGE_OUT (R159). -/
def execPackageOut (channel : Byte) (s : State) : Host.Outcome State Fault Refusal := .next (s.messageTaken.takePackageOut channel)

/-- PACKAGE_READY as its owner takes it (R159). -/
def State.takePackageReady (s : State) (channel : Byte) : State :=
  if 8 ≤ channel.toNat then s.refuseMessage 0x06#8 .badField else (s.channelReady channel.toNat).sendState false

/-- PACKAGE_READY (R159). -/
def execPackageReady (channel : Byte) (s : State) : Host.Outcome State Fault Refusal :=
  .next (s.messageTaken.takePackageReady channel)

end Sys2Proof.Machine
end

