-- ==== Sys2Proof/Machine/History.lean ====
section
/-! DEFINITION. The pick history (chapter 7): a pick made woven, the records' share of a pick latch and of the level shed, pick back
up to its re-presentation, HISTORY_READ. -/

namespace Sys2Proof.Machine

/-! ### Making a pick woven (R115, R116) -/

/-- A woven record joins the ring at the new end; a ring that would hold 97 drops its oldest and reports it (R115, R116). -/
def State.joinRing (s : State) (p : Pick) : State :=
  if s.ph.ring.length < Config.ringCapacity then { s with ph.ring := s.ph.ring ++ [p] }
  else match s.ph.ring ++ [p] with
    | dropped :: rest => State.dropReported { s with ph.ring := rest, ph.origin := false } dropped.seq
    | [] => s

/-- The counters of a pick made woven: WOVEN, and WOVEN_CH of its channel (R115, R169). -/
def WeftStats.countWoven (x : WeftStats) (channel : Option Nat) : WeftStats :=
  let x := { x with woven := bump x.woven }
  match channel with
  | some c => { x with wovenCh := countAt x.wovenCh c 1 }
  | none => x

/-- The old shed is made woven: the ring, the next-pick number, the counters, the aging count (R115, R80, R149). -/
def State.makeWoven (s : State) (p : Pick) : State :=
  let s := s.joinRing p
  State.countAging { s with pcm.nextPick := p.g + 1#32, evs.weft := s.evs.weft.countWoven p.channel }

/-- The old shed, if there is one, is made woven. -/
def State.weaveShed (s : State) (old : Option Pick) : State :=
  match old with
  | some p => s.makeWoven p
  | none => s

/-- The step of the old shed, if there is one, is looked at (R41). -/
def State.closeOld (s : State) (old : Option Pick) : State :=
  match old with
  | some p => s.closeStep p.seq
  | none => s

/-! ### The latch (R115, R117, R136, R138) -/

/-- A strobe at LATCH: the image becomes the chain's share of δ (R136). -/
def Chain.strobeTransfer (c : Chain) : Chain :=
  match c.state, c.shift with
  | .active, some ⟨.transfer, drive, _⟩ => { c with image := drive, shift := none }
  | _, _ => c

/-- LATCH with a TRANSFERRED record: strobe, floats, records, queue, LATCH_DONE (R136, R104, R115, R41). -/
def State.pickLatch (s : State) (p : Pick) (runs : Runs) : State :=
  let old := s.ph.shed
  let s := { s with hcu.chains := tabMap (fun _ (c : Chain) => c.strobeTransfer) s.hcu.chains }
  let s := (s.latchFloats p runs).weaveShed old
  let s := { s with ph.shed := some p, pcm.staging := none }
  (s.closeOld old).occur .latchDone

/-- A pulse of the clear line of an ACTIVE chain (R138). -/
def Chain.pulseClear (c : Chain) : Chain := if c.state = .active then { c with image := 0#3072 } else c

/-- LATCH at program end: the level shed, PROGRAM_END and its hard stop (R138, R117, R105). -/
def State.levelShed (s : State) : State :=
  let old := s.ph.shed
  let s := { s with hcu.chains := tabMap (fun _ (c : Chain) => c.pulseClear) s.hcu.chains }
  let s := s.levelFloats.weaveShed old
  let s := { s with ph.shed := none }
  ((s.closeOld old).raise .programEnd).hardStop .programEnd true

/-! ### Pick back (R119, R120) -/

/-- The first condition of R119 that fails, if one does. -/
def State.pickBackRefusal (s : State) : Option Reason :=
  if s.stu.weaving ≠ .finding then some .wrongState
  else if s.ph.representing.isSome then some .busy
  else if s.ph.ring = [] then some .empty
  else if s.ph.origin ∨ 33 ≤ s.ph.ring.length then none else some .reverseLimit

/-- The records, the queue, the run counters and the indication of an accepted pick back (R120, steps 1 to 5). -/
def State.stepBack (s : State) (p : Pick) : State :=
  let old := s.ph.shed
  let s := State.reopenStep { s with ph.shed := some p, ph.ring := s.ph.ring.dropLast } p.seq
  let s := match old with
    | some q => s.returnStep q.seq
    | none => s
  State.invalidate { s.rebuildRuns with pcm.programEnd := false, pcm.marked := false }

/-! ### HISTORY_READ (R125) -/

/-- The reach of pick finding (R119). -/
def Ph.reach (ph : Ph) : Nat := if ph.origin then ph.ring.length else ph.ring.length - 32

/-- The record of an age: 0 the shed, 1 the newest of the ring (R113). -/
def Ph.record (ph : Ph) : Nat → Option Pick
  | 0 => ph.shed
  | age + 1 => ph.ring.reverse[age]?

/-- A pick record as HISTORY_READ gives it. -/
def Pick.payload (p : Pick) : List Byte :=
  bytes32 p.g ++ bytes16 p.seq ++ u32 p.t ++ u16 p.row ++ u8 p.k ++ u8 p.weft ++ uOpt 1 u8 p.channel ++ u16 p.forcedDown ++
    u16 p.forcedUp ++ u16 p.unresolved

/-- HISTORY_READ on the part (R125). With a field out of its range and no record of that age the answer is BAD_FIELD (DESIGN CHOICE,
log 25). -/
def takeHistoryRead (age : Byte) (first count : BitVec 16) (s : State) : Taken :=
  if 96 < age.toNat ∨ Config.hookCount ≤ first.toNat ∨ 4096 < count.toNat ∨ Config.hookCount < first.toNat + count.toNat then
    .refuse .badField s
  else match s.ph.record age.toNat with
    | none => .refuse .notFound s
    | some p =>
      .accept (u8 s.ph.ring.length ++ uFlag s.ph.origin ++ u8 s.ph.reach ++ uFlag s.ph.shed.isSome ++
        uOpt 4 (fun (x : Representation) => bytes32 x.g) s.ph.representing ++ p.payload ++
        packLift p.lift first.toNat count.toNat) s

/-- HISTORY_READ (R125). -/
def execHistoryRead (age : Byte) (first count : BitVec 16) (s : State) : Host.Outcome State Fault Refusal :=
  .next (s.takeCommand (.historyRead age first count) (takeHistoryRead age first count))

end Sys2Proof.Machine
end

