-- ==== Sys2Proof/Machine/Chains.lean ====
section
/-! DEFINITION. The hook chain unit (chapter 8): isolation, re-presentation, probing and presentation, the completion of a chain's
shift, LATCH, PICK_BACK, CHAIN_READ. CHAIN_CONFIG and CHAIN_PROBE stand in Edits.lean. -/

namespace Sys2Proof.Machine

/-! ### Isolation and marker checks (R133, R135) -/

/-- The values shifted into a chain for a drive: the transfer marker, then the drive values in descending hook order, the chain's
highest hook first; M × 64 + 1 values in all (R133). -/
def Chain.valuesIn (c : Chain) (drive : Share) : List ChainValue :=
  .marker :: ((List.range c.hooks).reverse.map fun i => ChainValue.level (drive.getLsbD i))

/-- Whether a value of an echo is a raised one. -/
def isRaised : ChainValue → Bool
  | .marker => false
  | .level b => b

/-- The share whose values are those of a list in descending order, the highest first: the sensed states of a chain's hooks, from the
first M × 64 values of its echo (R133). -/
def descending (l : List ChainValue) : Share := BitVec.ofNat 3072 (l.foldl (fun n v => 2 * n + (isRaised v).toNat) 0)

/-- The marker check: the transfer marker at position M × 64 + 1, counted from 1, and at no earlier position (R133). -/
def markerSound (values : List ChainValue) (final : ChainValue) : Bool := decide (final = .marker) && !values.contains .marker

/-- A failed marker check or cut-off check: the chain is ISOLATED with its clear line asserted and image 0, and counted (R128,
R135, R137). -/
def State.isolate (s : State) (c : Nat) : State :=
  let s := s.updateChain c fun x => { x with state := .isolated, image := 0#3072, shift := none }
  { s with evs.chains.markerFault := countAt s.evs.chains.markerFault c 1 }

/-- A chain's last value is shifted: it holds its share for the strobe. -/
def Chain.complete (c : Chain) : Chain := { c with shift := c.shift.map fun x => { x with done := true } }

/-! ### Re-presentation (R121, R123) -/

/-- The strobe that ends a re-presentation, on the chains that completed (R121). -/
def Chain.strobeRepresentation (c : Chain) : Chain :=
  match c.shift with
  | some ⟨.representation, drive, _⟩ => { c with image := drive, shift := none }
  | _ => c

/-- The answer that ends a re-presentation: BACK_DONE, or CHAIN_FAULT with its hard stop (R121, R123). -/
def State.answerRepresentation (s : State) (r : Representation) : State :=
  if r.faulty = 0#4 then s.send (.backDone r.g)
  else ((s.send (.chainFault r.g r.faulty)).hardStop .chainFault false).raise .chainFault

/-- The re-presentation ends once no chain still shifts for it (R121). -/
def State.finishRepresentation (s : State) : State :=
  match s.ph.representing with
  | none => s
  | some r =>
    if s.shifting .representation then s
    else
      let s := { s with hcu.chains := tabMap (fun _ (c : Chain) => c.strobeRepresentation) s.hcu.chains }
      { s.answerRepresentation r with ph.representing := none }

/-- The re-presentation of the shed begins, and ends at once with no chain ACTIVE (R121). -/
def State.beginRepresentation (s : State) (p : Pick) : State :=
  State.finishRepresentation
    { s.shiftAll .representation p.lift with ph.representing := some { g := p.g, faulty := 0#4 } }

/-- PICK_BACK as its owner takes it (R119, R120). -/
def State.takePickBack (s : State) : State :=
  match s.pickBackRefusal, s.ph.ring.getLast? with
  | none, some p => (s.stepBack p).beginRepresentation p
  | some why, _ => s.refuseMessage 0x04#8 why
  | none, none => s

/-- PICK_BACK (R119, R120). -/
def execPickBack (s : State) : Host.Outcome State Fault Refusal := .next s.messageTaken.takePickBack

/-! ### Probing (R130, R131) -/

/-- The probe result of a marker's position: N modules at N × 64 + 1, N in 0..48, else NONE (R130). -/
def probeResult : Option Nat → ProbeResult
  | none => .noCount
  | some at_ => if 0 < at_ ∧ (at_ - 1) % 64 = 0 ∧ (at_ - 1) / 64 ≤ 48 then .modules ((at_ - 1) / 64) else .noCount

/-- The probe is answered, with the chain as it now is (R131). With no presentation made the mismatches are sent as 0 (DESIGN CHOICE,
log 30). -/
def State.answerProbe (s : State) (pr : Probe) : State :=
  let c := s.chain pr.chain.val
  { s.answer 0x61#8 .accept .plain (u8 c.probe.code ++ u8 c.modules ++ u8 c.state.code ++ uOpt 4 bytes32 pr.presented ++
      u16 pr.mismatches) with hcu.probing := none }

/-- A presentation of the shed begins on the probing chain alone (R131). -/
def State.beginPresentation (s : State) (c : Fin 4) (p : Pick) : State :=
  let s := s.updateChain c.val fun x => x.begin .presentation (s.driveShare (some c) p.lift c.val)
  { s with hcu.probing := some { chain := c, presented := some p.g, mismatches := 0 } }

/-- The probe's counting ends (R131). -/
def State.endCount (s : State) (pr : Probe) (marker : Option Nat) : State :=
  let result := probeResult marker
  let s := s.updateChain pr.chain.val fun x => { x with probe := result, shift := none }
  if result = .modules (s.chain pr.chain.val).modules then
    match s.ph.shed with
    | none => (s.updateChain pr.chain.val fun x => { x with state := .active }).answerProbe pr
    | some p => s.beginPresentation pr.chain p
  else (s.updateChain pr.chain.val fun x => { x with state := .isolated, image := 0#3072 }).answerProbe pr

/-- Whether a chain's probe is still counting. -/
def State.counting (s : State) (pr : Probe) : Bool := (s.chain pr.chain.val).shift.any fun x => x.work = .probe

/-- PROBE_COUNT_END (R131); with no probe counting the event does not occur (log 8). -/
def execProbeCountEnd (marker : Option Nat) (s : State) : Host.Outcome State Fault Refusal :=
  .next (match s.hcu.probing with
    | some pr => if s.counting pr then s.endCount pr marker else s
    | none => s)

/-- A presentation whose check passed: the strobe of this chain alone, or, the shed having changed, another presentation (R131;
log 9). -/
def State.finishPresentation (s : State) (pr : Probe) (drive : Share) : State :=
  match s.ph.shed with
  | some p =>
    if pr.presented = some p.g then
      (s.updateChain pr.chain.val fun x => { x with state := .active, image := drive, shift := none }).answerProbe pr
    else s.beginPresentation pr.chain p
  | none => (s.updateChain pr.chain.val fun x => { x with state := .active, image := drive, shift := none }).answerProbe pr

/-! ### The completion of a chain's shift (R133 to R135) -/

/-- A completion whose marker check passes (R133, R134). -/
def State.shiftPassed (s : State) (c : Fin 4) (x : Shift) (sensed : Share) : State :=
  let found := (mismatches c.val (s.chain c.val).hooks (s.chain c.val).image sensed).length
  let s := (s.updateChain c.val Chain.complete).compareEcho c.val sensed
  match x.work with
  | .transfer => s.finishTransfer
  | .representation => s.finishRepresentation
  | .presentation => match s.hcu.probing with
    | some pr => State.finishPresentation { s with hcu.probing := some { pr with mismatches := found } }
        { pr with mismatches := found } x.drive
    | none => s
  | .probe => s

/-- A completion whose marker check fails: no comparison (R135, R123, R131). -/
def State.shiftFailed (s : State) (c : Fin 4) (x : Shift) : State :=
  let s := s.isolate c.val
  match x.work with
  | .transfer => (s.raise .chainFault).hardStop .chainFault true
  | .representation =>
    State.finishRepresentation
      { s with ph.representing := s.ph.representing.map fun r => { r with faulty := r.faulty ||| 1#4 <<< c.val } }
  | .presentation => match s.hcu.probing with
    | some pr => (s.raise .chainFault).answerProbe pr
    | none => s
  | .probe => s

/-- CHAIN_SHIFT_COMPLETE (R133); on a chain that does not shift drive values, or with an echo that does not hold one value for each
value shifted in, the event does not occur (log 8). -/
def execChainShiftComplete (chain : Fin 4) (values : List ChainValue) (final : ChainValue) (s : State) :
    Host.Outcome State Fault Refusal :=
  let c := s.chain chain.val
  .next (match c.shift with
    | some x =>
      if x.done ∨ x.work = .probe ∨ values.length + 1 ≠ (c.valuesIn x.drive).length then s
      else if markerSound values final then s.shiftPassed chain x (descending values)
      else s.shiftFailed chain x
    | none => s)

/-! ### LATCH and TRANSFER (R132, R136 to R138) -/

/-- The chains still shifting for the transfer whose echo has already shown the marker (R137). -/
def State.cutEarly (s : State) (early : BitVec 4) : List Nat :=
  (List.range 4).filter fun c => early.getLsbD c && (s.chain c).shift.any fun x => x.work = .transfer ∧ x.done = false

/-- LATCH with a record not yet TRANSFERRED: PATTERN_LATE, and CHAIN_FAULT for chains that fail the cut-off check, the two hard
stops in a free order (R137, R18). -/
def State.patternLate (s : State) (early : BitVec 4) : State :=
  let cut := s.cutEarly early
  let s := s.raise .patternLate
  let s := { s with evs.chains.patternLate := bump s.evs.chains.patternLate }
  let s := cut.foldl State.isolate s.discardStaging
  if cut = [] then s.hardStop .patternLate true
  else
    let turn := (s.raise .chainFault).freely [Cause.patternLate, Cause.chainFault]
    turn.1.foldl (fun x c => x.hardStop c true) turn.2

/-- LATCH delivered in RUNNING (section 8.4). -/
def State.latch (s : State) (early : BitVec 4) : State :=
  match s.pcm.staging with
  | none => if s.pcm.programEnd then s.levelShed else s
  | some ⟨p, .transferred runs⟩ => s.pickLatch p runs
  | some _ => s.patternLate early

/-- TRANSFER delivered in RUNNING: the transfer is due, and begins when the record is COMPOSED (R132). -/
def State.transfer (s : State) : State := State.tryTransfer { s with hcu.transferDue := true }

/-- COMPOSE delivered in RUNNING: a composition begins when the staging record is EMPTY, else it is let pass (R81); it is also let
pass for a shed marked last, which is not asked about again before its LATCH (R33; log 24). -/
def State.compose (s : State) : State :=
  match s.pcm.staging with
  | none => if s.pcm.marked then s else s.beginComposition
  | some _ => s

/-! ### CHAIN_READ (R140) -/

/-- The number of a chain's hooks whose image value is 1. -/
def Chain.raised (c : Chain) : Nat := (List.range c.hooks).countP fun i => c.image.getLsbD i

/-- CHAIN_READ on the part (R140). -/
def takeChainRead (chain : Byte) (s : State) : Taken :=
  if 4 ≤ chain.toNat then .refuse .badField s
  else
    let c := s.chain chain.toNat
    let now := (c.shift.filter fun x => !x.done).map fun x => x.work.code
    .accept (u8 c.state.code ++ u8 c.modules ++ u8 c.divisor ++ u8 c.probe.code ++ u16 c.raised ++ uOpt 1 u8 now ++
      bytes32 (tabGet s.evs.chains.echoMismatch chain.toNat 0#32) ++ bytes32 (tabGet s.evs.chains.markerFault chain.toNat 0#32)) s

/-- CHAIN_READ (R140). -/
def execChainRead (chain : Byte) (s : State) : Host.Outcome State Fault Refusal :=
  .next (s.takeCommand (.chainRead chain) (takeChainRead chain))

end Sys2Proof.Machine
end

