-- ==== Sys2Proof/Machine/Edits.lean ====
section
/-! DEFINITION. The edits that reach the staging record (section 5.5): STEP_CUT, CELLS, CELLS_MORE, WEAVE_WRITE, COLORMAP_WRITE,
SECTION_WRITE, FLOAT_LIMITS, CHAIN_CONFIG, CHAIN_PROBE, FAULT_PUT, FAULT_REMOVE. -/

namespace Sys2Proof.Machine

/-- Whether a design is the design of the staging step (R55, R71). -/
def State.stagingDesign (s : State) (id : Nat) : Bool :=
  s.pcm.staging.any fun st => s.pickDesign st.pick = some id

/-- An accepted write to a design that is the design of the staging step is an event of the list (R55, R71, R93); `before` is the
state before the write. -/
def State.invalidateFor (s before : State) (id : Nat) : State := if before.stagingDesign id then s.invalidate else s

/-! ### STEP_CUT (R29) -/

/-- The queue with the record of a seq and all that follow it removed. -/
def cutFrom (q : List StepRec) (seq : BitVec 16) : List StepRec := q.takeWhile fun r => r.seq ≠ seq

/-- STEP_CUT on the part (R29, R93). -/
def takeStepCut (seq : BitVec 16) (s : State) : Taken :=
  match s.step? seq with
  | none => .refuse .notFound s
  | some r =>
    if r.state ≠ .waiting then .refuse .locked s
    else
      let left := cutFrom s.pq.steps seq
      .accept (u8 (s.pq.steps.length - left.length) ++ u8 left.length) (State.invalidate { s with pq.steps := left })

/-- STEP_CUT (R29). -/
def execStepCut (seq : BitVec 16) (s : State) : Host.Outcome State Fault Refusal :=
  .next (s.takeCommand (.stepCut seq) (takeStepCut seq))

/-! ### CELLS, CELLS_MORE (R58) -/

/-- Cells written from the window start or from the cursor: the payload length, then the tests in order, then the writes, the report
to the composer, and the response (R58, R55, R60, R179). -/
def takeCells (fromStart : Bool) (count : BitVec 16) (packed : List Byte) (s : State) : Taken :=
  if packed.length ≠ packedLength count.toNat then .refuse .badField s
  else match s.ps.window with
    | none => .refuse .notFound s
    | some w =>
      if count.toNat = 0 ∨ 2048 < count.toNat then .refuse .badField s
      else if s.writeLocked w.design then .refuse .locked s
      else match s.design? w.design with
        | none => .refuse .notFound s
        | some d =>
          let r := writeAtCursor d (unpackCells count.toNat packed) s.ps.cells (if fromStart then w.home else w)
          let t := s.settleReads w.design
          let t := { t with ps.cells := r.1, ps.window := some r.2 }
          .accept (bytes16 count ++ r.2.cursorPayload) (t.invalidateFor s w.design)

/-- CELLS (R58). -/
def execCells (count : BitVec 16) (packed : List Byte) (s : State) : Host.Outcome State Fault Refusal :=
  .next (s.takeCommand (.cells count packed) (takeCells true count packed))

/-- CELLS_MORE (R58). -/
def execCellsMore (count : BitVec 16) (packed : List Byte) (s : State) : Host.Outcome State Fault Refusal :=
  .next (s.takeCommand (.cellsMore count packed) (takeCells false count packed))

/-! ### WEAVE_WRITE (R64) -/

/-- WEAVE_WRITE on the part (R64, R93). -/
def takeWeaveWrite (id ww wh : Byte) (rows : List (BitVec 32)) (s : State) : Taken :=
  if 32 ≤ id.toNat ∨ ww.toNat = 0 ∨ 32 < ww.toNat ∨ wh.toNat = 0 ∨ 32 < wh.toNat ∨ rows.length ≠ wh.toNat then .refuse .badField s
  else if s.weaveInUse id.toNat then .refuse .inUse s
  else
    let w : Weave := { ww := ww.toNat, wh := wh.toNat, rows := rows.map (keepColumns ww.toNat) }
    .accept ([id, ww, wh] ++ u16 (s.slotsNaming id.toNat))
      (State.invalidate { s with wct.weaves := tabSet s.wct.weaves id.toNat w })

/-- WEAVE_WRITE (R64). -/
def execWeaveWrite (id ww wh : Byte) (rows : List (BitVec 32)) (s : State) : Host.Outcome State Fault Refusal :=
  .next (s.takeCommand (.weaveWrite id ww wh rows) (takeWeaveWrite id ww wh rows))

/-! ### COLORMAP_WRITE (R71) -/

/-- COLORMAP_WRITE on the part (R71, R70). -/
def takeColormapWrite (design colour : Byte) (slots : Vector RawSlot 4) (s : State) : Taken :=
  match slotsOf slots with
  | none => .refuse .badField s
  | some v =>
    if 16 ≤ design.toNat ∨ 16 ≤ colour.toNat then .refuse .badField s
    else if (s.design? design.toNat).isNone then .refuse .notFound s
    else if s.writeLocked design.toNat then .refuse .locked s
    else
      let t := s.settleReads design.toNat
      let t := { t with wct.maps := tabSet t.wct.maps design.toNat (tabSet (t.map design.toNat) colour.toNat v) }
      .accept (v.toList.flatMap slotPayload ++ u8 t.weavesInUse) (t.invalidateFor s design.toNat)

/-- COLORMAP_WRITE (R71). -/
def execColormapWrite (design colour : Byte) (slots : Vector RawSlot 4) (s : State) : Host.Outcome State Fault Refusal :=
  .next (s.takeCommand (.colormapWrite design colour slots) (takeColormapWrite design colour slots))

/-! ### SECTION_WRITE (R75, R76) -/

/-- The section a SECTION_WRITE gives when its fields pass test 2, before Lw is clamped (R75). -/
def sectionOf (index : Byte) (f c : BitVec 16) (mode hmode : Byte) (o : BitVec 16) (fixedWeave lw : Byte) : Option Section :=
  match sectionModeOf mode, repeatOf hmode with
  | some m, some hm =>
    if index.toNat < 8 ∧ f.toNat < 12288 ∧ f.toNat + c.toNat ≤ 12288 ∧ o.toNat < 6144 ∧ fixedWeave.toNat < 32 then
      some { f := f.toNat, c := c.toNat, mode := m, hmode := hm, o := o.toNat, weave := fixedWeave.toNat, lw := lw.toNat }
    else none
  | _, _ => none

/-- The weft float limit a section stores (R75). -/
def clampedLw (mode : SectionMode) (lw : Nat) : Nat :=
  match mode with
  | .parked => 0
  | _ => if lw = 1 then 2 else min lw 64

/-- Whether two sections of count above 0 share a hook. -/
def Section.overlaps (x y : Section) : Bool := decide (0 < x.c ∧ 0 < y.c ∧ x.f < y.f + y.c ∧ y.f < x.f + x.c)

/-- Whether every hook of a section exists: on each chain number, its hooks there lie below the chain's module count. -/
def State.sectionExists (s : State) (x : Section) : Bool :=
  (List.range 4).all fun c =>
    x.onChain c = 0 || decide (min (x.f + x.c) ((c + 1) * Config.hooksPerChain) ≤ c * Config.hooksPerChain + (s.chain c).hooks)

/-- Whether a hook lies in a section of count above 0. -/
def Section.covers (x : Section) (h : Nat) : Bool := decide (x.f ≤ h ∧ h < x.f + x.c)

/-- Whether an entry of the fault table names a substitute that a section covers. -/
def State.coversSpare (s : State) (x : Section) : Bool := s.hft.entries.any fun e => e.spare.any x.covers

/-- Whether test 3 of R75 fails for a section to be written at an index. -/
def State.sectionConflict (s : State) (index : Nat) (x : Section) : Bool :=
  decide (0 < x.c) &&
    ((List.range 8).any (fun i => i ≠ index && x.overlaps (s.section i)) || !s.sectionExists x || s.coversSpare x)

/-- The number of hooks covered by all sections of count above 0; sections never share a hook. -/
def State.coveredHooks (s : State) : Nat := (s.pcm.sections.toList.map (·.c)).sum

/-- SECTION_WRITE on the part (R75, R76, R95). -/
def takeSectionWrite (index : Byte) (f c : BitVec 16) (mode hmode : Byte) (o : BitVec 16) (fixedWeave lw : Byte) (s : State) :
    Taken :=
  if s.stu.weaving ≠ .stopped then .refuse .wrongState s
  else match sectionOf index f c mode hmode o fixedWeave lw with
    | none => .refuse .badField s
    | some x =>
      if s.sectionConflict index.toNat x then .refuse .conflict s
      else
        let x' := { x with lw := clampedLw x.mode x.lw }
        let t := s.abandonWork
        let t := { t with pcm.sections := tabSet t.pcm.sections index.toNat x' }
        .acceptClamped (decide (x'.lw ≠ x.lw))
          (x'.payload ++ u16 t.coveredHooks ++ u16 (Config.hookCount - t.coveredHooks)) t.invalidate

/-- SECTION_WRITE (R75, R76). -/
def execSectionWrite (index : Byte) (f c : BitVec 16) (mode hmode : Byte) (o : BitVec 16) (fixedWeave lw : Byte) (s : State) :
    Host.Outcome State Fault Refusal :=
  .next (s.takeCommand (.sectionWrite index f c mode hmode o fixedWeave lw)
    (takeSectionWrite index f c mode hmode o fixedWeave lw))

/-! ### FLOAT_LIMITS (R109) -/

/-- The warp limit stored for a value given (R109). -/
def clampedLwarp (n : Nat) : Nat := if n = 1 then 2 else min n 32

/-- The response of FLOAT_LIMITS: Lwarp, the hooks whose counter equals it, the hooks whose counter is above 0. -/
def State.limitsPayload (s : State) : List Byte :=
  u8 s.flm.lwarp ++ u16 (if s.flm.lwarp = 0 then 0 else s.flm.runs.countP fun r => r.2 = s.flm.lwarp) ++
    u16 (s.flm.runs.countP fun r => 0 < r.2)

/-- FLOAT_LIMITS on the part (R109, R95). -/
def takeFloatLimits (warpLimit : Byte) (s : State) : Taken :=
  if s.stu.weaving ≠ .stopped then .refuse .wrongState s
  else
    let t := s.abandonWork
    let t := State.rebuildRuns { t with flm.lwarp := clampedLwarp warpLimit.toNat }
    .acceptClamped (decide (clampedLwarp warpLimit.toNat ≠ warpLimit.toNat)) t.limitsPayload t.invalidate

/-- FLOAT_LIMITS (R109). -/
def execFloatLimits (warpLimit : Byte) (s : State) : Host.Outcome State Fault Refusal :=
  .next (s.takeCommand (.floatLimits warpLimit) (takeFloatLimits warpLimit))

/-! ### CHAIN_CONFIG (R129) -/

/-- Whether test 4 of R129 fails: a section covers, or an entry names as its substitute, a hook of the chain at or above
modules × 64. -/
def State.configConflict (s : State) (chain modules : Nat) : Bool :=
  let low := chain * Config.hooksPerChain + modules * Config.hooksPerModule
  let high := (chain + 1) * Config.hooksPerChain
  s.pcm.sections.toList.any (fun x => decide (0 < x.c ∧ max x.f low < min (x.f + x.c) high)) ||
    s.hft.entries.any fun e => e.spare.any fun h => decide (low ≤ h ∧ h < high)

/-- A chain record after CHAIN_CONFIG. -/
def Chain.configured (modules divisor : Nat) : Chain :=
  { state := if modules = 0 then .disabled else .unprobed, modules := modules, divisor := divisor, image := 0#3072, probe := .absent,
    shift := none }

/-- The number of a chain's hooks that lie in sections of count above 0. -/
def State.sectionHooks (s : State) (chain : Nat) : Nat := (s.pcm.sections.toList.map fun x => x.onChain chain).sum

/-- CHAIN_CONFIG on the part (R129, R95). -/
def takeChainConfig (chain modules divisor : Byte) (s : State) : Taken :=
  if 4 ≤ chain.toNat ∨ 48 < modules.toNat ∨ divisor.toNat = 0 ∨ 64 < divisor.toNat then .refuse .badField s
  else if s.stu.weaving ≠ .stopped then .refuse .wrongState s
  else if s.ph.representing.isSome then .refuse .busy s
  else if s.configConflict chain.toNat modules.toNat then .refuse .conflict s
  else
    let t := s.abandonWork.updateChain chain.toNat fun _ => Chain.configured modules.toNat divisor.toNat
    let c := Chain.configured modules.toNat divisor.toNat
    .accept (u8 c.state.code ++ [modules, divisor] ++ u16 (s.sectionHooks chain.toNat)) t.invalidate

/-- CHAIN_CONFIG (R129). -/
def execChainConfig (chain modules divisor : Byte) (s : State) : Host.Outcome State Fault Refusal :=
  .next (s.takeCommand (.chainConfig chain modules divisor) (takeChainConfig chain modules divisor))

/-! ### CHAIN_PROBE (R130) -/

/-- Whether a chain may be probed. -/
def Chain.probable (c : Chain) : Bool := c.state = .unprobed || c.state = .isolated

/-- A chain record as its probe begins: PROBING, the clear line held, the probe pattern shifting. -/
def Chain.probing (c : Chain) : Chain := { c with state := .probing, image := 0#3072 }.begin .probe 0#3072

/-- CHAIN_PROBE on the part: BUSY is held by the probe (R130, R95, R173). -/
def takeChainProbe (chain : Byte) (s : State) : Taken :=
  if 4 ≤ chain.toNat then .refuse .badField s
  else if s.stu.weaving ≠ .stopped then .refuse .wrongState s
  else if s.ph.representing.isSome then .refuse .busy s
  else if (s.chain chain.toNat).probable then
    let t := s.abandonWork.invalidate.updateChain chain.toNat Chain.probing
    .hold .probe { t with hcu.probing := some { chain := Fin.ofNat 4 chain.toNat, presented := none, mismatches := 0 } }
  else .refuse .wrongState s

/-- CHAIN_PROBE (R130). -/
def execChainProbe (chain : Byte) (s : State) : Host.Outcome State Fault Refusal :=
  .next (s.takeCommand (.chainProbe chain) (takeChainProbe chain))

/-! ### FAULT_PUT, FAULT_REMOVE (R150, R151) -/

/-- Whether an entry other than the hook's own names a hook as its substitute. -/
def Hft.sparedElsewhere (t : Hft) (hook x : Nat) : Bool := t.entries.any fun e => decide (e.hook ≠ hook) && decide (e.spare = some x)

/-- Whether test 3 of R150 fails for a spare. -/
def State.spareConflict (s : State) (hook spare : Nat) : Bool :=
  decide (spare = hook) || !s.hookExists spare || s.pcm.sections.toList.any (fun x => decide (0 < x.c) && x.covers spare) ||
    (s.hft.find spare).isSome || s.hft.sparedElsewhere hook spare

/-- Whether tests 2 and 3 of R150 fail for an action. -/
def State.putConflict (s : State) (hook : Nat) (a : FaultAction) : Bool :=
  s.hft.sparedElsewhere hook hook ||
    match a with
    | .park => false
    | .substitute x => s.spareConflict hook x

/-- The STATIC entry FAULT_PUT stores: count and last sense of the entry it replaces, or 0 and absent (R150). -/
def Hft.staticEntry (t : Hft) (hook : Nat) (a : FaultAction) : FaultEntry :=
  match t.find hook with
  | some e => { hook, kind := .fixed a, count := e.count, sense := e.sense }
  | none => { hook, kind := .fixed a, count := 0, sense := none }

/-- Whether an action's spare is a hook number. -/
def FaultAction.inRange : FaultAction → Bool
  | .park => true
  | .substitute x => decide (x < Config.hookCount)

/-- FAULT_PUT on the part (R150, R93). -/
def takeFaultPut (hook : BitVec 16) (action : Byte) (spare : BitVec 16) (s : State) : Taken :=
  match faultActionOf action spare with
  | none => .refuse .badField s
  | some a =>
    if Config.hookCount ≤ hook.toNat ∨ ¬ a.inRange then .refuse .badField s
    else if s.putConflict hook.toNat a then .refuse .conflict s
    else if (s.hft.find hook.toNat).isNone ∧ Config.faultCapacity ≤ s.hft.entries.length then .refuse .tableFull s
    else
      let e := s.hft.staticEntry hook.toNat a
      let l := putEntry e s.hft.entries
      .accept (e.payload ++ u8 l.length) (State.invalidate { s with hft.entries := l })

/-- FAULT_PUT (R150). -/
def execFaultPut (hook : BitVec 16) (action : Byte) (spare : BitVec 16) (s : State) : Host.Outcome State Fault Refusal :=
  .next (s.takeCommand (.faultPut hook action spare) (takeFaultPut hook action spare))

/-- FAULT_REMOVE on the part (R151, R93). -/
def takeFaultRemove (hook : BitVec 16) (s : State) : Taken :=
  if Config.hookCount ≤ hook.toNat then .refuse .badField s
  else match s.hft.find hook.toNat with
    | none => .refuse .notFound s
    | some e =>
      let l := s.hft.entries.filter fun x => x.hook ≠ hook.toNat
      .accept (e.payload ++ u8 l.length) (State.invalidate { s with hft.entries := l })

/-- FAULT_REMOVE (R151). -/
def execFaultRemove (hook : BitVec 16) (s : State) : Host.Outcome State Fault Refusal :=
  .next (s.takeCommand (.faultRemove hook) (takeFaultRemove hook))

end Sys2Proof.Machine
end

