-- ==== Sys2Proof/Machine/Shaft.lean ====
section
/-! DEFINITION. The shaft timing unit (chapter 1): power-on, the quadrature steps and index crossings with the angle events they fire
and deliver, the angle sets, the stop-mode table, the sync commands and WAIT_SYNC. -/

namespace Sys2Proof.Machine

/-- POWER_ON: every block takes its power-on values; the commands that wait and the free values go on (R10, log 1, log 2). -/
def execPowerOn (s : State) : Host.Outcome State Fault Refusal :=
  .next { State.reset with free := s.free, pending := s.pending }

/-! ### Angle events (R4, R5) -/

/-- The angle of an event in an angle set. -/
def AngleSet.angle (a : AngleSet) : AngleEvent → Nat
  | .compose => a.compose | .transfer => a.transfer | .latch => a.latch | .weftRelease => a.weftRelease
  | .weftSelect => a.weftSelect

/-- Whether an event is armed. -/
def Armed.has (x : Armed) : AngleEvent → Bool
  | .compose => x.compose | .transfer => x.transfer | .latch => x.latch | .weftRelease => x.weftRelease
  | .weftSelect => x.weftSelect

/-- The armed events whose angle is a position: those that a forward arrival there fires (R4). -/
def Stu.firedAt (x : Stu) (position : Nat) : List AngleEvent :=
  [AngleEvent.compose, .transfer, .latch, .weftRelease, .weftSelect].filter fun e =>
    x.armed.has e && x.active.angle e == position

/-- The armed flags once the events at a position have fired (R4). -/
def Stu.disarmAt (x : Stu) (position : Nat) : Armed :=
  { compose := x.armed.compose && x.active.compose != position
    transfer := x.armed.transfer && x.active.transfer != position
    latch := x.armed.latch && x.active.latch != position
    weftRelease := x.armed.weftRelease && x.active.weftRelease != position
    weftSelect := x.armed.weftSelect && x.active.weftSelect != position }

/-- Every event armed (R4). -/
def Armed.all : Armed := ⟨true, true, true, true, true⟩

/-- The parts of one forward step that reach the blocks: the events it fires, and the engagement whose dead time it completes. -/
inductive StepPart where
  | angle (e : AngleEvent)
  | engagement
  deriving DecidableEq, Repr

/-- A fired event as its receiving block takes it (R5). -/
def State.deliver (s : State) (early : BitVec 4) : AngleEvent → State
  | .compose => s.compose
  | .transfer => s.transfer
  | .latch => s.latch early
  | .weftRelease => s.weftRelease
  | .weftSelect => s.weftSelect

/-- One part of a forward step: an event is delivered in RUNNING only; the engagement is made if it is still due (R5, R163). -/
def State.takePart (early : BitVec 4) (s : State) : StepPart → State
  | .angle e => match s.stu.weaving with
    | .running => s.deliver early e
    | .stopped => s
    | .finding => s
  | .engagement => if s.engagementDue then s.engage else s

/-- The parts of the forward step just made that a block acts on: none outside RUNNING (R5). -/
def State.stepParts (s : State) (fired : List AngleEvent) : List StepPart :=
  match s.stu.weaving with
  | .running => fired.map StepPart.angle ++ if s.engagementDue then [StepPart.engagement] else []
  | .stopped => []
  | .finding => []

/-- The shaft one forward step on: position and armed flags (R1, R4). -/
def Stu.forward (x : Stu) : Stu :=
  let next := x.position + 1
  { x with position := next, armed := x.disarmAt next.val }

/-- A forward quadrature step: the position, the release count, then the events that fire, in a free order where several fall
together (R1, R4, R5, R160, R163; log 2). -/
def State.forwardStep (s : State) (early : BitVec 4) : State :=
  let fired := s.stu.firedAt (s.stu.position + 1).val
  let s := State.countRelease { s with stu := s.stu.forward }
  let turn := s.freely (s.stepParts fired)
  turn.1.foldl (State.takePart early) turn.2

/-- FORWARD_STEP (R1, R4). -/
def execForwardStep (early : BitVec 4) (s : State) : Host.Outcome State Fault Refusal := .next (s.forwardStep early)

/-- Whether the next forward step completes the dead time of a WAITING engagement in RUNNING. -/
def State.completesNext (s : State) : Bool :=
  match s.stu.weaving, s.wsu.finger, s.wsu.release with
  | .running, .waiting _ _, some r => decide (r.count + 1 = r.dead)
  | _, _, _ => false

/-- DEAD_TIME_COMPLETE: the forward step that completes a dead time (R163); where the next step completes none, the event does not
occur (log 8). -/
def execDeadTimeComplete (early : BitVec 4) (s : State) : Host.Outcome State Fault Refusal :=
  .next (if s.completesNext then s.forwardStep early else s)

/-- BACKWARD_STEP (R1, R4). -/
def execBackwardStep (s : State) : Host.Outcome State Fault Refusal :=
  .next { s with stu.position := s.stu.position - 1 }

/-- ENCODER_SLIP increments when the index has been seen and a condition holds (R1 to R3). -/
def State.slipIf (s : State) (slipped : Bool) : State :=
  if s.stu.indexSeen && slipped then { s with evs.link.encoderSlip := bump s.evs.link.encoderSlip } else s

/-- ILLEGAL_TRANSITION (R1). -/
def execIllegalTransition (s : State) : Host.Outcome State Fault Refusal := .next (s.slipIf true)

/-! ### Index crossings (R2, R3, R8) -/

/-- Whether a forward index crossing swaps the angle sets (R8). -/
def State.swaps (s : State) : Bool :=
  match s.stu.swap with
  | .off => false
  | .nextPick => true
  | .nextStep => s.ph.shed.any fun p => p.t = 0

/-- The swap of a forward index crossing, when it is made (R8). -/
def State.swapAngles (s : State) : State :=
  if s.swaps then { s with stu.active := s.stu.buffered, stu.swap := .off }.raise .anglesSwapped else s

/-- The shaft timing unit's share of a forward index crossing (R2, R4, R8, R20). -/
def State.indexForward (s : State) : State :=
  let s := s.slipIf (s.stu.position ≠ 1023)
  let s := State.swapAngles { s with stu.position := 0, stu.indexSeen := true }
  State.occur { s with stu.armed := .all } .index

/-- The engagement whose dead time the crossing step completes is made before the carry is looked at (R163, R164). -/
def State.engageDue (s : State) : State := if s.engagementDue then s.engage else s

/-- FORWARD_INDEX_CROSSING (R2, R132, R160, R163, R164). -/
def execForwardIndexCrossing (s : State) : Host.Outcome State Fault Refusal :=
  .next (State.countRelease { s.indexForward with hcu.transferDue := false }).engageDue.carryEngagement

/-- BACKWARD_INDEX_CROSSING (R3). -/
def execBackwardIndexCrossing (s : State) : Host.Outcome State Fault Refusal :=
  .next { s.slipIf (s.stu.position ≠ 0) with stu.position := 1023, stu.indexSeen := true }

/-! ### Angle sets (R6, R7, R9) -/

/-- The constraints on an angle set (R6). -/
def AngleSet.valid (a : AngleSet) : Bool :=
  decide (0 < a.compose ∧ a.compose < a.transfer ∧ a.transfer < a.latch ∧ a.latch ≤ 1023 ∧ 0 < a.weftRelease ∧
    a.weftRelease < a.latch ∧ a.weftRelease < a.weftSelect ∧ a.weftSelect ≤ 1023 ∧ a.dead ≤ 255)

/-- ANGLES_WRITE on the part (R6). -/
def takeAnglesWrite (compose transfer latch weftRelease weftSelect : BitVec 16) (dead : Byte) (s : State) : Taken :=
  let a : AngleSet := { compose := compose.toNat, transfer := transfer.toNat, latch := latch.toNat,
                        weftRelease := weftRelease.toNat, weftSelect := weftSelect.toNat, dead := dead.toNat }
  if a.valid then .accept [] { s with stu.buffered := a } else .refuse .badField s

/-- ANGLES_WRITE (R6). -/
def execAnglesWrite (compose transfer latch weftRelease weftSelect : BitVec 16) (dead : Byte) (s : State) :
    Host.Outcome State Fault Refusal :=
  .next (s.takeCommand (.anglesWrite compose transfer latch weftRelease weftSelect dead)
    (takeAnglesWrite compose transfer latch weftRelease weftSelect dead))

/-- ANGLES_ARM on the part (R7). -/
def takeAnglesArm (mode : Byte) (s : State) : Taken :=
  match swapArmOf mode with
  | some m => .accept [] { s with stu.swap := m }
  | none => .refuse .badField s

/-- ANGLES_ARM (R7). -/
def execAnglesArm (mode : Byte) (s : State) : Host.Outcome State Fault Refusal :=
  .next (s.takeCommand (.anglesArm mode) (takeAnglesArm mode))

/-- The six values of an angle set as a response carries them. -/
def AngleSet.payload (a : AngleSet) : List Byte :=
  u16 a.compose ++ u16 a.transfer ++ u16 a.latch ++ u16 a.weftRelease ++ u16 a.weftSelect ++ u8 a.dead

/-- ANGLES_READ on the part (R9). -/
def takeAnglesRead (s : State) : Taken :=
  .accept (s.stu.active.payload ++ s.stu.buffered.payload ++ u8 s.stu.swap.code) s

/-- ANGLES_READ (R9). -/
def execAnglesRead (s : State) : Host.Outcome State Fault Refusal := .next (s.takeCommand .anglesRead takeAnglesRead)

/-! ### Stop modes (R13) -/

/-- The table with the mode of one of the loom controller's causes set. -/
def StopModes.set (m : StopModes) (cause : Cause) (mode : StopMode) : StopModes :=
  match cause with
  | .weftBreak => { m with weftBreak := mode }
  | .warpBreak => { m with warpBreak := mode }
  | .operator => { m with operator := mode }
  | _ => { m with external := mode }

/-- The whole table as a response carries it: the four modes in the order of R13's causes, without cause codes (DESIGN CHOICE, log 11). -/
def StopModes.payload (m : StopModes) : List Byte :=
  u8 m.weftBreak.code ++ u8 m.warpBreak.code ++ u8 m.operator.code ++ u8 m.external.code

/-- STOP_MODE_WRITE on the part (R13). -/
def takeStopModeWrite (cause mode : Byte) (s : State) : Taken :=
  match loomCauseOf cause, stopModeOf mode with
  | some c, some m => .accept (s.stu.modes.set c m).payload { s with stu.modes := s.stu.modes.set c m }
  | _, _ => .refuse .badField s

/-- STOP_MODE_WRITE (R13). -/
def execStopModeWrite (cause mode : Byte) (s : State) : Host.Outcome State Fault Refusal :=
  .next (s.takeCommand (.stopModeWrite cause mode) (takeStopModeWrite cause mode))

/-! ### Sync flags and waits (R20 to R22) -/

/-- SYNC_SOURCE on the part (R20). -/
def takeSyncSource (flag source : Byte) (s : State) : Taken :=
  match flagOf flag, syncSourceOf source with
  | some false, some src => .accept [] { s with stu.source0 := src }
  | some true, some src => .accept [] { s with stu.source1 := src }
  | _, _ => .refuse .badField s

/-- SYNC_SOURCE (R20). -/
def execSyncSource (flag source : Byte) (s : State) : Host.Outcome State Fault Refusal :=
  .next (s.takeCommand (.syncSource flag source) (takeSyncSource flag source))

/-- SYNC_SET on the part (R21). -/
def takeSyncSet (mask : Byte) (s : State) : Taken :=
  match syncMaskOf mask with
  | some m =>
    let t := { s with stu.sync0 := s.stu.sync0 || m.1, stu.sync1 := s.stu.sync1 || m.2 }
    .accept t.syncPayload t
  | none => .refuse .badField s

/-- SYNC_SET (R21). -/
def execSyncSet (mask : Byte) (s : State) : Host.Outcome State Fault Refusal :=
  .next (s.takeCommand (.syncSet mask) (takeSyncSet mask))

/-- SYNC_CLEAR on the part (R21). -/
def takeSyncClear (mask : Byte) (s : State) : Taken :=
  match syncMaskOf mask with
  | some m =>
    let t := { s with stu.sync0 := s.stu.sync0 && !m.1, stu.sync1 := s.stu.sync1 && !m.2 }
    .accept t.syncPayload t
  | none => .refuse .badField s

/-- SYNC_CLEAR (R21). -/
def execSyncClear (mask : Byte) (s : State) : Host.Outcome State Fault Refusal :=
  .next (s.takeCommand (.syncClear mask) (takeSyncClear mask))

/-- The wait that a WAIT_SYNC asks for; none when one of its fields is refused (R22). -/
def waitOf (mask combination clear : Byte) (timeout : BitVec 16) : Option Wait :=
  match syncMaskOf mask, combinationOf combination, flagOf clear with
  | some m, some all, some clr =>
    if m.1 || m.2 then
      some { mask0 := m.1, mask1 := m.2, all := all, clear := clr, timeout := max timeout.toNat 1,
             clamped := decide (timeout.toNat = 0) }
    else none
  | _, _, _ => none

/-- WAIT_SYNC on the part: answered at once, or pending with BUSY held (R22, R23). -/
def takeWaitSync (mask combination clear : Byte) (timeout : BitVec 16) (s : State) : Taken :=
  match waitOf mask combination clear timeout with
  | none => .refuse .badField s
  | some w =>
    if w.met s.stu.sync0 s.stu.sync1 then .acceptClamped w.clamped s.syncPayload (s.clearWaited w)
    else .hold .wait { s with stu.wait := some w }

/-- WAIT_SYNC (R22). -/
def execWaitSync (mask combination clear : Byte) (timeout : BitVec 16) (s : State) : Host.Outcome State Fault Refusal :=
  .next (s.takeCommand (.waitSync mask combination clear timeout) (takeWaitSync mask combination clear timeout))

end Sys2Proof.Machine
end

