-- ==== Sys2Proof/Machine/LoomLink.lean ====
section
/-! DEFINITION. The receiver and the transmit queue of the loom link (R185, R187). -/

namespace Sys2Proof.Machine

/-- The REFUSED answer to a message of a kind the part does not take, and its count (R185). -/
def State.unknownMessage (s : State) (kind : Byte) : State :=
  { s.refuseMessage kind .unknown with evs.link.llUnknown := bump s.evs.link.llUnknown }

/-- A LINK_ERRORS count (R185). -/
def State.linkError (s : State) : State := { s with evs.link.linkErrors := bump s.evs.link.linkErrors }

/-- A message of a kind the part takes, handed to its owner (R184, R185). -/
def State.takeMessage (s : State) (kind first second : Byte) : State :=
  match kind.toNat with
  | 1 => s.takeRun
  | 2 => s.takeStop first second
  | 3 => s.takeFind
  | 4 => s.takePickBack
  | 5 => s.takePackageOut first
  | 6 => s.takePackageReady first
  | 7 => s.takeReleaseWait
  | 8 => s.sendState false
  | _ => s.unknownMessage kind

/-- A complete message of eight bytes: the buffer is empty, the check, then the kind (R185). -/
def State.receiveMessage (s : State) (bytes : List Byte) : State :=
  let s := s.messageTaken
  if bytes[7]? = some (messageCheck (bytes.take 7)) then
    s.takeMessage (bytes.getD 0 0#8) (bytes.getD 1 0#8) (bytes.getD 2 0#8)
  else s.linkError

/-- A byte received without an error or a gap: the eighth completes the message (R185). -/
def State.receiveByte (s : State) (b : Byte) : State :=
  let held := s.llp.received ++ [b]
  if held.length < 8 then { s with llp.received := held } else s.receiveMessage held

/-- LL_MESSAGE_BAD_CHECK (R185): the receiver tests the eight bytes given. -/
def execLlMessageBadCheck (message : Vector Byte 8) (s : State) : Host.Outcome State Fault Refusal :=
  .next (s.receiveMessage message.toList)

/-- LL_UNKNOWN_KIND (R185): the receiver tests the eight bytes given. -/
def execLlUnknownKind (message : Vector Byte 8) (s : State) : Host.Outcome State Fault Refusal :=
  .next (s.receiveMessage message.toList)

/-- LL_FRAMING_ERROR: one count, also for a byte that comes after a gap (R185; DESIGN CHOICE, log 28). -/
def execLlFramingError (s : State) : Host.Outcome State Fault Refusal :=
  .next { s with llp.received := [] }.linkError

/-- LL_BYTE_GAP: a byte after a gap discards the bytes held, if there are any, and begins a new message (R185). -/
def State.byteAfterGap (s : State) (b : Byte) : State :=
  let t := { s with llp.received := [b] }
  if s.llp.received = [] then t else t.linkError

/-- LL_BYTE_GAP (R185). -/
def execLlByteGap (held : List Byte) (byte : Byte) (s : State) : Host.Outcome State Fault Refusal :=
  .next ((held.foldl State.receiveByte s).byteAfterGap byte)

/-- LL_MESSAGE_SENT: the message being sent leaves; it is the oldest of the queue, or the one that a soft reset took out of the queue
while it was being sent (R187). -/
def execLlMessageSent (s : State) : Host.Outcome State Fault Refusal :=
  .next (match s.llp.sending with
    | some _ => { s with llp.sending := none }
    | none => { s with llp.queue := s.llp.queue.drop 1 })

end Sys2Proof.Machine
end

