-- ==== Sys2Proof/Machine/DesignLink.lean ====
section
/-! DEFINITION. The design link port (chapter 11) and the event and statistics commands (chapter 12): STATUS_READ, SOFT_RESET, the event
and statistics commands, response reads and the brackets given by their bytes. -/

namespace Sys2Proof.Machine

/-! ### STATUS_READ (R176) -/

/-- G, seq and t of a pick. -/
def Pick.brief (p : Pick) : List Byte := bytes32 p.g ++ bytes16 p.seq ++ u32 p.t

/-- The last stop record as a response carries it. -/
def LastStop.payload (r : LastStop) : List Byte := u8 r.cause.code ++ uOpt 1 u8 r.channel ++ u8 r.mode.code

/-- The fields of STATUS_READ in R176's order. -/
def State.statusPayload (s : State) : List Byte :=
  u8 s.stu.weaving.code ++ u16 s.stu.position.val ++ uFlag s.stu.indexSeen ++ uOpt 10 Pick.brief s.ph.shed ++
    uFlag s.pcm.programEnd ++ u8 (stagingCode s.pcm.staging) ++ uOpt 10 (fun (x : Staging) => x.pick.brief) s.pcm.staging ++
    uOpt 4 (fun (x : Representation) => bytes32 x.g) s.ph.representing ++
    s.hcu.chains.toList.flatMap (fun (c : Chain) => u8 c.state.code) ++
    s.wsu.finger.payload ++ uOpt 4 bytes32 s.wsu.servedG ++ releasePayload s.wsu.release ++
    uFlag s.stu.wait.isSome ++ s.syncPayload ++ uOpt 4 LastStop.payload s.stu.lastStop

/-- STATUS_READ on the part (R176). -/
def takeStatusRead (s : State) : Taken := .accept s.statusPayload s

/-- STATUS_READ (R176). -/
def execStatusRead (s : State) : Host.Outcome State Fault Refusal := .next (s.takeCommand .statusRead takeStatusRead)

/-! ### SOFT_RESET (R177, R178) -/

/-- Section 1.6. -/
def Stu.softReset (x : Stu) : Stu :=
  { x with swap := .off, weaving := .stopped, lastStop := none, sync0 := false, sync1 := false, wait := none }

/-- R142: a chain after soft reset. -/
def Chain.softReset (c : Chain) : Chain :=
  { c with state := if c.modules = 0 then .disabled else .unprobed, image := 0#3072, probe := .absent, shift := none }

/-- R155. -/
def Hft.softReset (x : Hft) : Hft :=
  { x with entries := x.entries.filter fun e => !e.isLearned, agingCounter := 0, position := none, fullMisses := 0#32,
           spareMismatch := 0#32 }

/-- R170. -/
def Wsu.softReset (x : Wsu) : Wsu :=
  { x with map := tabMap (fun _ (e : WeftEntry) => { e with selection := .primary, exhausted := false }) x.map,
           ready := Vector.replicate 8 true, finger := .off, release := none, servedG := none }

/-- R187, R191: the queue is emptied; the message being sent, the oldest of it, is sent to its end. -/
def Llp.softReset (x : Llp) : Llp :=
  { received := [], queue := [], sending := match x.sending with | some m => some m | none => x.queue.head? }

/-- Every block's soft-reset values; the work in flight is gone with the staging, re-presentation and chain records (R178). -/
def State.softReset (s : State) : State :=
  { s with stu := s.stu.softReset
           pq := { s.pq with steps := [], counter := 0#16 }
           ps := { s.ps with window := none }
           pcm := { s.pcm with staging := none, nextPick := 0#32, programEnd := false, marked := false }
           flm := { s.flm with runs := [] }
           ph := .powerOn
           hcu := { chains := tabMap (fun _ (c : Chain) => c.softReset) s.hcu.chains, transferDue := false, probing := none }
           hft := s.hft.softReset
           wsu := s.wsu.softReset
           llp := s.llp.softReset
           evs := { Evs.powerOn with mask := s.evs.mask } }

/-- SOFT_RESET on the part (R177, R178). -/
def takeSoftReset (s : State) : Taken :=
  if s.stu.weaving ≠ .stopped then .refuse .wrongState s else .accept [] (s.softReset.sendState false)

/-- SOFT_RESET (R177, R178). -/
def execSoftReset (s : State) : Host.Outcome State Fault Refusal := .next (s.takeCommand .softReset takeSoftReset)

/-! ### Event flags (R188, R189) -/

/-- The 15 event flags as a response carries them: one flag byte each, 1 set or 0 clear (R179), in R188's order. -/
def flagsPayload (x : BitVec 15) : List Byte := (List.range 15).flatMap fun i => uFlag (x.getLsbD i)

/-- An event mask as a payload carries it: two bytes, bit 15 clear (R179). -/
def maskPayload (m : BitVec 15) : List Byte := bytes16 (m.setWidth 16)

/-- EVENTS_READ on the part (R188). -/
def takeEventsRead (s : State) : Taken :=
  .accept (flagsPayload s.evs.flags ++ maskPayload s.evs.mask ++
    uOpt 5 (fun (x : BitVec 16 × Option (BitVec 16)) => bytes16 x.1 ++ uOpt 2 bytes16 x.2) s.evs.opened ++
    uOpt 3 (fun (x : Nat × Sense) => u16 x.1 ++ u8 x.2.code) s.evs.learned ++
    uOpt 2 (fun (x : Nat × Nat) => u8 x.1 ++ u8 x.2) s.evs.switched) s

/-- EVENTS_READ (R188). -/
def execEventsRead (s : State) : Host.Outcome State Fault Refusal := .next (s.takeCommand .eventsRead takeEventsRead)

/-- EVENTS_CLEAR on the part (R188). -/
def takeEventsClear (mask : BitVec 16) (s : State) : Taken :=
  match eventMaskOf mask with
  | some m =>
    let t := { s with evs.flags := s.evs.flags &&& ~~~m }
    .accept (flagsPayload t.evs.flags) t
  | none => .refuse .badField s

/-- EVENTS_CLEAR (R188). -/
def execEventsClear (mask : BitVec 16) (s : State) : Host.Outcome State Fault Refusal :=
  .next (s.takeCommand (.eventsClear mask) (takeEventsClear mask))

/-- EVENTS_MASK on the part (R189). -/
def takeEventsMask (mask : BitVec 16) (s : State) : Taken :=
  match eventMaskOf mask with
  | some m => .accept (maskPayload m) { s with evs.mask := m }
  | none => .refuse .badField s

/-- EVENTS_MASK (R189). -/
def execEventsMask (mask : BitVec 16) (s : State) : Host.Outcome State Fault Refusal :=
  .next (s.takeCommand (.eventsMask mask) (takeEventsMask mask))

/-! ### Statistics (R190) -/

/-- Counters as a response carries them. -/
def countersPayload (l : List Counter) : List Byte := l.flatMap bytes32

/-- The response of STATS_READ for a group (R190, R111, R141); none for a code above 4. -/
def State.statsPayload (s : State) (group : Byte) : Option (List Byte) :=
  match group.toNat with
  | 0 => some (countersPayload s.evs.weft.list)
  | 1 => some (countersPayload s.evs.floats.list ++ u8 s.flm.lwarp)
  | 2 => some (countersPayload s.evs.chains.list ++ s.hcu.chains.toList.flatMap fun (c : Chain) => u8 c.state.code)
  | 3 => some (countersPayload s.evs.stops.list)
  | 4 => some (countersPayload s.evs.link.list)
  | _ => none

/-- STATS_READ on the part (R190). -/
def takeStatsRead (group : Byte) (s : State) : Taken :=
  match s.statsPayload group with
  | some payload => .accept payload s
  | none => .refuse .badField s

/-- STATS_READ (R190). -/
def execStatsRead (group : Byte) (s : State) : Host.Outcome State Fault Refusal :=
  .next (s.takeCommand (.statsRead group) (takeStatsRead group))

/-- The event and statistics unit with one group at 0; none for a code above 4 (R190). -/
def Evs.clearGroup (x : Evs) (group : Byte) : Option Evs :=
  match group.toNat with
  | 0 => some { x with weft := .zero }
  | 1 => some { x with floats := .zero }
  | 2 => some { x with chains := .zero }
  | 3 => some { x with stops := .zero }
  | 4 => some { x with link := .zero }
  | _ => none

/-- STATS_CLEAR on the part (R190). -/
def takeStatsClear (group : Byte) (s : State) : Taken :=
  match s.evs.clearGroup group with
  | some e => .accept [] { s with evs := e }
  | none => .refuse .badField s

/-- STATS_CLEAR (R190). -/
def execStatsClear (group : Byte) (s : State) : Host.Outcome State Fault Refusal :=
  .next (s.takeCommand (.statsClear group) (takeStatsClear group))

/-! ### Response reads (R175) -/

/-- The bytes a response read shifts out: FFh with the 00h byte, then the response, then FFh (R175). -/
def shiftOut (response : Option Response) (clocked : Nat) : List Byte :=
  let l := match response with | some r => r.bytes | none => []
  0xFF#8 :: (l.take clocked ++ List.replicate (clocked - l.length) 0xFF#8)

/-- Whether a read of some bytes cuts the response short within it (R175). -/
def cutsShort (response : Option Response) (clocked : Nat) : Bool :=
  response.any fun r => decide (0 < clocked ∧ clocked < r.bytes.length)

/-- A response read begun while BUSY is low (R175). -/
def State.readResponse (s : State) (clocked : Nat) : State :=
  let t := { s with dlp.shiftedOut := shiftOut s.dlp.response clocked }
  if cutsShort s.dlp.response clocked then
    { t with dlp.response := none, evs.link.dlLostResponse := bump t.evs.link.dlLostResponse }
  else t

/-- RESPONSE_READ (R175); begun while BUSY it is discarded (R174). -/
def execResponseRead (clocked : Nat) (s : State) : Host.Outcome State Fault Refusal :=
  .next (if s.busy then s.discardBracket (clocked + 1) else s.readResponse clocked)

/-! ### Brackets given by their bytes (R171 to R174) -/

/-- The owner of a design link command (R172, R183); none for the rows that are no such command. -/
def ownerOf : Instr → Option (State → Taken)
  | .powerOn .. => none
  | .forwardStep .. => none
  | .backwardStep .. => none
  | .illegalTransition .. => none
  | .forwardIndexCrossing .. => none
  | .backwardIndexCrossing .. => none
  | .deadTimeComplete .. => none
  | .compositionEnd .. => none
  | .chainShiftComplete .. => none
  | .agingPass .. => none
  | .waitTimeout .. => none
  | .defineClearDone .. => none
  | .sumDone .. => none
  | .probeCountEnd .. => none
  | .run .. => none
  | .stop .. => none
  | .find .. => none
  | .pickBack .. => none
  | .packageOut .. => none
  | .packageReady .. => none
  | .releaseWait .. => none
  | .statusAsk .. => none
  | .llMessageBadCheck .. => none
  | .llUnknownKind .. => none
  | .llFramingError .. => none
  | .llByteGap .. => none
  | .llMessageSent .. => none
  | .responseRead .. => none
  | .busyDiscard .. => none
  | .dlUnknownFrame .. => none
  | .statusRead => some takeStatusRead
  | .softReset => some takeSoftReset
  | .eventsRead => some takeEventsRead
  | .eventsClear mask => some (takeEventsClear mask)
  | .eventsMask mask => some (takeEventsMask mask)
  | .statsRead group => some (takeStatsRead group)
  | .statsClear group => some (takeStatsClear group)
  | .anglesWrite compose transfer latch weftRelease weftSelect dead => some (takeAnglesWrite compose transfer latch weftRelease weftSelect dead)
  | .anglesArm mode => some (takeAnglesArm mode)
  | .anglesRead => some takeAnglesRead
  | .stopModeWrite cause mode => some (takeStopModeWrite cause mode)
  | .syncSource flag source => some (takeSyncSource flag source)
  | .syncSet mask => some (takeSyncSet mask)
  | .syncClear mask => some (takeSyncClear mask)
  | .waitSync mask combination clear timeout => some (takeWaitSync mask combination clear timeout)
  | .stepAppend design rowFirst rowLast vmode n p weftSeq tag stopAtEnd => some (takeStepAppend design rowFirst rowLast vmode n p weftSeq tag stopAtEnd)
  | .stepCut seq => some (takeStepCut seq)
  | .queueRead index => some (takeQueueRead index)
  | .queueWatermark value => some (takeQueueWatermark value)
  | .designDefine id w h liveEdit => some (takeDesignDefine id w h liveEdit)
  | .designDelete id => some (takeDesignDelete id)
  | .designInfo id => some (takeDesignInfo id)
  | .designWindow id col0 col1 row0 row1 order colDir rowDir => some (takeDesignWindow id col0 col1 row0 row1 order colDir rowDir)
  | .cells count packed => some (takeCells true count packed)
  | .cellsMore count packed => some (takeCells false count packed)
  | .cellsRead count => some (takeRead true count)
  | .readMore count => some (takeRead false count)
  | .designSum id => some (takeDesignSum id)
  | .storeFree => some takeStoreFree
  | .weaveWrite id ww wh rows => some (takeWeaveWrite id ww wh rows)
  | .weaveRead id => some (takeWeaveRead id)
  | .colormapWrite design colour slots => some (takeColormapWrite design colour slots)
  | .colormapRead design colour => some (takeColormapRead design colour)
  | .sectionWrite index f c mode hmode o fixedWeave lw => some (takeSectionWrite index f c mode hmode o fixedWeave lw)
  | .sectionRead index => some (takeSectionRead index)
  | .floatLimits warpLimit => some (takeFloatLimits warpLimit)
  | .runCountersRead first count => some (takeRunCountersRead first count)
  | .historyRead age first count => some (takeHistoryRead age first count)
  | .chainConfig chain modules divisor => some (takeChainConfig chain modules divisor)
  | .chainProbe chain => some (takeChainProbe chain)
  | .chainRead chain => some (takeChainRead chain)
  | .faultPut hook action spare => some (takeFaultPut hook action spare)
  | .faultRemove hook => some (takeFaultRemove hook)
  | .faultFirst => some takeFaultFirst
  | .faultNext => some takeFaultNext
  | .agingPeriod period => some (takeAgingPeriod period)
  | .faultStop threshold => some (takeFaultStop threshold)
  | .faultInfo clear => some (takeFaultInfo clear)
  | .weftSeqWrite id length entries => some (takeWeftSeqWrite id length entries)
  | .weftMapWrite logical primary alternate selection => some (takeWeftMapWrite logical primary alternate selection)
  | .weftRead id => some (takeWeftRead id)
  | .dlBadLengthFrame .. => none
  | .dlBadCheckFrame .. => none
/-- The answer and the counter of a frame that fails a test of R172. -/
def State.refuseFrame (s : State) (kind : Byte) : FrameFault → State
  | .badLength => { s with evs.link.dlBadLength := bump s.evs.link.dlBadLength }.answer kind .refuse .badLength []
  | .badCheck => { s with evs.link.dlBadCheck := bump s.evs.link.dlBadCheck }.answer kind .refuse .badCheck []
  | .unknownKind => { s with evs.link.dlUnknown := bump s.evs.link.dlUnknown }.answer kind .unknown .plain []

/-- A command that passed the tests of R172; a payload whose length is not that of its fields is refused BAD_FIELD (R179). -/
def State.ownFrame (s : State) (kind : Byte) (payload : List Byte) : State :=
  match (parseCommand kind payload).bind ownerOf with
  | some owner => (owner s).done kind
  | none => s.answer kind .refuse .badField []

/-- A command frame begun while BUSY is low, at its end (R171, R172). -/
def State.endFrame (s : State) (bytes : List Byte) : State :=
  match testFrame bytes with
  | .ok (kind, payload) => (s.frameIn bytes).ownFrame kind payload
  | .error why => (s.frameIn bytes).refuseFrame (bytes.headD 0#8) why

/-- A bracket of some bytes: discarded while BUSY; none of no byte; a response read after 00h; else a command frame (R171, R174). -/
def State.takeBracket (s : State) (bytes : List Byte) : State :=
  match bytes with
  | [] => s
  | first :: rest =>
    if s.busy then s.discardBracket (rest.length + 1)
    else if first = 0x00#8 then s.readResponse rest.length
    else s.endFrame (first :: rest)

/-- BUSY_DISCARD (R174). -/
def execBusyDiscard (bytes : List Byte) (s : State) : Host.Outcome State Fault Refusal := .next (s.takeBracket bytes)

/-- DL_UNKNOWN_FRAME (R172). -/
def execDlUnknownFrame (bytes : List Byte) (s : State) : Host.Outcome State Fault Refusal := .next (s.takeBracket bytes)

/-- DL_BAD_LENGTH_FRAME (R172). -/
def execDlBadLengthFrame (bytes : List Byte) (s : State) : Host.Outcome State Fault Refusal := .next (s.takeBracket bytes)

/-- DL_BAD_CHECK_FRAME (R172). -/
def execDlBadCheckFrame (bytes : List Byte) (s : State) : Host.Outcome State Fault Refusal := .next (s.takeBracket bytes)

end Sys2Proof.Machine
end

