-- ==== Sys2Proof/Machine/Dispatch.lean ====
section
/-! DEFINITION. One arm for each command of the part. -/

namespace Sys2Proof.Machine

def exec (i : Instr) (s : State) : Host.Outcome State Fault Refusal :=
  match i with
  | .powerOn => Sys2Proof.Machine.execPowerOn s
  | .forwardStep early => Sys2Proof.Machine.execForwardStep early s
  | .backwardStep => Sys2Proof.Machine.execBackwardStep s
  | .illegalTransition => Sys2Proof.Machine.execIllegalTransition s
  | .forwardIndexCrossing => Sys2Proof.Machine.execForwardIndexCrossing s
  | .backwardIndexCrossing => Sys2Proof.Machine.execBackwardIndexCrossing s
  | .deadTimeComplete early => Sys2Proof.Machine.execDeadTimeComplete early s
  | .compositionEnd => Sys2Proof.Machine.execCompositionEnd s
  | .chainShiftComplete chain values final => Sys2Proof.Machine.execChainShiftComplete chain values final s
  | .agingPass => Sys2Proof.Machine.execAgingPass s
  | .waitTimeout => Sys2Proof.Machine.execWaitTimeout s
  | .defineClearDone => Sys2Proof.Machine.execDefineClearDone s
  | .sumDone => Sys2Proof.Machine.execSumDone s
  | .probeCountEnd marker => Sys2Proof.Machine.execProbeCountEnd marker s
  | .run => Sys2Proof.Machine.execRun s
  | .stop cause channel => Sys2Proof.Machine.execStop cause channel s
  | .find => Sys2Proof.Machine.execFind s
  | .pickBack => Sys2Proof.Machine.execPickBack s
  | .packageOut channel => Sys2Proof.Machine.execPackageOut channel s
  | .packageReady channel => Sys2Proof.Machine.execPackageReady channel s
  | .releaseWait => Sys2Proof.Machine.execReleaseWait s
  | .statusAsk => Sys2Proof.Machine.execStatusAsk s
  | .llMessageBadCheck message => Sys2Proof.Machine.execLlMessageBadCheck message s
  | .llUnknownKind message => Sys2Proof.Machine.execLlUnknownKind message s
  | .llFramingError => Sys2Proof.Machine.execLlFramingError s
  | .llByteGap held byte => Sys2Proof.Machine.execLlByteGap held byte s
  | .llMessageSent => Sys2Proof.Machine.execLlMessageSent s
  | .responseRead clocked => Sys2Proof.Machine.execResponseRead clocked s
  | .busyDiscard bytes => Sys2Proof.Machine.execBusyDiscard bytes s
  | .dlUnknownFrame bytes => Sys2Proof.Machine.execDlUnknownFrame bytes s
  | .statusRead => Sys2Proof.Machine.execStatusRead s
  | .softReset => Sys2Proof.Machine.execSoftReset s
  | .eventsRead => Sys2Proof.Machine.execEventsRead s
  | .eventsClear mask => Sys2Proof.Machine.execEventsClear mask s
  | .eventsMask mask => Sys2Proof.Machine.execEventsMask mask s
  | .statsRead group => Sys2Proof.Machine.execStatsRead group s
  | .statsClear group => Sys2Proof.Machine.execStatsClear group s
  | .anglesWrite compose transfer latch weftRelease weftSelect dead => Sys2Proof.Machine.execAnglesWrite compose transfer latch weftRelease weftSelect dead s
  | .anglesArm mode => Sys2Proof.Machine.execAnglesArm mode s
  | .anglesRead => Sys2Proof.Machine.execAnglesRead s
  | .stopModeWrite cause mode => Sys2Proof.Machine.execStopModeWrite cause mode s
  | .syncSource flag source => Sys2Proof.Machine.execSyncSource flag source s
  | .syncSet mask => Sys2Proof.Machine.execSyncSet mask s
  | .syncClear mask => Sys2Proof.Machine.execSyncClear mask s
  | .waitSync mask combination clear timeout => Sys2Proof.Machine.execWaitSync mask combination clear timeout s
  | .stepAppend design rowFirst rowLast vmode n p weftSeq tag stopAtEnd => Sys2Proof.Machine.execStepAppend design rowFirst rowLast vmode n p weftSeq tag stopAtEnd s
  | .stepCut seq => Sys2Proof.Machine.execStepCut seq s
  | .queueRead index => Sys2Proof.Machine.execQueueRead index s
  | .queueWatermark value => Sys2Proof.Machine.execQueueWatermark value s
  | .designDefine id w h liveEdit => Sys2Proof.Machine.execDesignDefine id w h liveEdit s
  | .designDelete id => Sys2Proof.Machine.execDesignDelete id s
  | .designInfo id => Sys2Proof.Machine.execDesignInfo id s
  | .designWindow id col0 col1 row0 row1 order colDir rowDir => Sys2Proof.Machine.execDesignWindow id col0 col1 row0 row1 order colDir rowDir s
  | .cells count packed => Sys2Proof.Machine.execCells count packed s
  | .cellsMore count packed => Sys2Proof.Machine.execCellsMore count packed s
  | .cellsRead count => Sys2Proof.Machine.execCellsRead count s
  | .readMore count => Sys2Proof.Machine.execReadMore count s
  | .designSum id => Sys2Proof.Machine.execDesignSum id s
  | .storeFree => Sys2Proof.Machine.execStoreFree s
  | .weaveWrite id ww wh rows => Sys2Proof.Machine.execWeaveWrite id ww wh rows s
  | .weaveRead id => Sys2Proof.Machine.execWeaveRead id s
  | .colormapWrite design colour slots => Sys2Proof.Machine.execColormapWrite design colour slots s
  | .colormapRead design colour => Sys2Proof.Machine.execColormapRead design colour s
  | .sectionWrite index f c mode hmode o fixedWeave lw => Sys2Proof.Machine.execSectionWrite index f c mode hmode o fixedWeave lw s
  | .sectionRead index => Sys2Proof.Machine.execSectionRead index s
  | .floatLimits warpLimit => Sys2Proof.Machine.execFloatLimits warpLimit s
  | .runCountersRead first count => Sys2Proof.Machine.execRunCountersRead first count s
  | .historyRead age first count => Sys2Proof.Machine.execHistoryRead age first count s
  | .chainConfig chain modules divisor => Sys2Proof.Machine.execChainConfig chain modules divisor s
  | .chainProbe chain => Sys2Proof.Machine.execChainProbe chain s
  | .chainRead chain => Sys2Proof.Machine.execChainRead chain s
  | .faultPut hook action spare => Sys2Proof.Machine.execFaultPut hook action spare s
  | .faultRemove hook => Sys2Proof.Machine.execFaultRemove hook s
  | .faultFirst => Sys2Proof.Machine.execFaultFirst s
  | .faultNext => Sys2Proof.Machine.execFaultNext s
  | .agingPeriod period => Sys2Proof.Machine.execAgingPeriod period s
  | .faultStop threshold => Sys2Proof.Machine.execFaultStop threshold s
  | .faultInfo clear => Sys2Proof.Machine.execFaultInfo clear s
  | .weftSeqWrite id length entries => Sys2Proof.Machine.execWeftSeqWrite id length entries s
  | .weftMapWrite logical primary alternate selection => Sys2Proof.Machine.execWeftMapWrite logical primary alternate selection s
  | .weftRead id => Sys2Proof.Machine.execWeftRead id s
  | .dlBadLengthFrame bytes => Sys2Proof.Machine.execDlBadLengthFrame bytes s
  | .dlBadCheckFrame bytes => Sys2Proof.Machine.execDlBadCheckFrame bytes s

end Sys2Proof.Machine
end

