-- ==== Sys2Proof/WellFormed.lean ====
section
/-! DEFINITION. Well-formed commands: the operands that a link or a block can give. Every field value of a design link command can be
sent, so only lengths are checked there; the rows that stand for one outcome of a test carry bytes that have it. -/

namespace Sys2Proof

/-- The longest payload of a frame (R180). -/
def maxPayload : Nat := 1030

/-- A position of the probe marker: at most 3073 values are shifted (R130). -/
def echoPosition (marker : Option Nat) : Bool := marker.all fun n => decide (1 ≤ n ∧ n ≤ 3073)

/-- Whether the check of a loom link message holds (R184). -/
def messageSound (message : List Byte) : Bool := message[7]? == some (Machine.messageCheck (message.take 7))

/-- Whether a byte is a kind the part takes on the loom link (R185). -/
def isMessageKind (kind : Byte) : Bool := decide (1 ≤ kind.toNat ∧ kind.toNat ≤ 8)

/-- Whether some bytes begin a command frame: at least one, the first not 00h (R171). -/
def beginsFrame : List Byte → Bool
  | [] => false
  | first :: _ => first != 0x00#8

/-- Whether a frame fails the tests of R172 first at a given one. -/
def failsAt (why : FrameFault) (bytes : List Byte) : Bool :=
  match testFrame bytes with
  | .ok _ => false
  | .error x => decide (x = why)

/-- Well-formed commands. -/
def Instr.wf : Instr → Bool
  | .powerOn => true
  | .forwardStep _ => true
  | .backwardStep => true
  | .illegalTransition => true
  | .forwardIndexCrossing => true
  | .backwardIndexCrossing => true
  | .deadTimeComplete _ => true
  | .compositionEnd => true
  | .chainShiftComplete _ values _ => decide (values.length ≤ 3072)
  | .agingPass => true
  | .waitTimeout => true
  | .defineClearDone => true
  | .sumDone => true
  | .probeCountEnd marker => echoPosition marker
  | .run => true
  | .stop _ _ => true
  | .find => true
  | .pickBack => true
  | .packageOut _ => true
  | .packageReady _ => true
  | .releaseWait => true
  | .statusAsk => true
  | .llMessageBadCheck message => !messageSound message.toList
  | .llUnknownKind message => messageSound message.toList && !isMessageKind message[0]
  | .llFramingError => true
  | .llByteGap held _ => decide (1 ≤ held.length ∧ held.length ≤ 7)
  | .llMessageSent => true
  | .responseRead _ => true
  | .busyDiscard bytes => decide (bytes ≠ [])
  | .dlUnknownFrame bytes => beginsFrame bytes && failsAt .unknownKind bytes
  | .statusRead => true
  | .softReset => true
  | .eventsRead => true
  | .eventsClear _ => true
  | .eventsMask _ => true
  | .statsRead _ => true
  | .statsClear _ => true
  | .anglesWrite _ _ _ _ _ _ => true
  | .anglesArm _ => true
  | .anglesRead => true
  | .stopModeWrite _ _ => true
  | .syncSource _ _ => true
  | .syncSet _ => true
  | .syncClear _ => true
  | .waitSync _ _ _ _ => true
  | .stepAppend _ _ _ _ _ _ _ _ _ => true
  | .stepCut _ => true
  | .queueRead _ => true
  | .queueWatermark _ => true
  | .designDefine _ _ _ _ => true
  | .designDelete _ => true
  | .designInfo _ => true
  | .designWindow _ _ _ _ _ _ _ _ => true
  | .cells _ packed => decide (2 + packed.length ≤ maxPayload)
  | .cellsMore _ packed => decide (2 + packed.length ≤ maxPayload)
  | .cellsRead _ => true
  | .readMore _ => true
  | .designSum _ => true
  | .storeFree => true
  | .weaveWrite _ _ _ rows => decide (3 + 4 * rows.length ≤ maxPayload)
  | .weaveRead _ => true
  | .colormapWrite _ _ _ => true
  | .colormapRead _ _ => true
  | .sectionWrite _ _ _ _ _ _ _ _ => true
  | .sectionRead _ => true
  | .floatLimits _ => true
  | .runCountersRead _ _ => true
  | .historyRead _ _ _ => true
  | .chainConfig _ _ _ => true
  | .chainProbe _ => true
  | .chainRead _ => true
  | .faultPut _ _ _ => true
  | .faultRemove _ => true
  | .faultFirst => true
  | .faultNext => true
  | .agingPeriod _ => true
  | .faultStop _ => true
  | .faultInfo _ => true
  | .weftSeqWrite _ _ entries => decide (2 + entries.length ≤ maxPayload)
  | .weftMapWrite _ _ _ _ => true
  | .weftRead _ => true
  | .dlBadLengthFrame bytes => beginsFrame bytes && failsAt .badLength bytes
  | .dlBadCheckFrame bytes => beginsFrame bytes && failsAt .badCheck bytes

end Sys2Proof
end

