-- ==== Sys2Proof/Safety.lean ====
section
/-! DEFINITION. What claims about the part are stated in: the answers of design link commands, the messages queued on the loom link, and
the invariants of the state. -/

namespace Sys2Proof.Machine

/-! ### Answers -/

/-- The kind code a command is answered with. -/
def codeOf (c : Instr) : Byte := (commandCode c).getD 0#8

/-- The design link port once a command is taken: its frame in the buffer, FFh shifted out meanwhile, the response pending, BUSY low. -/
def Dlp.after (x : Dlp) (c : Instr) (outcome : ReplyOutcome) (detail : Detail) (payload : List Byte) : Dlp :=
  { x with frame := (frameOf c).take Config.frameBufferBytes
           shiftedOut := idleBytes (frameOf c).length
           response := some { outcome, kind := codeOf c, detail, payload }
           work := none }

/-- Command `c` in state `s` is accepted with a detail and a payload and leaves `t`, but for the design link port (R173). -/
def Accepts (c : Instr) (s : State) (detail : Detail) (payload : List Byte) (t : State) : Prop :=
  exec c s = .next { t with dlp := t.dlp.after c .accept detail payload }

/-- Command `c` in state `s` is refused for a reason, with an empty payload and no other effect (R173). -/
def Refuses (c : Instr) (s : State) (why : Detail) : Prop :=
  exec c s = .next { s with dlp := s.dlp.after c .refuse why [] }

/-- Command `c` in state `s` is taken and leaves `t` with BUSY held by some work and no response pending (R173). -/
def Holds (c : Instr) (s : State) (work : DlWork) (t : State) : Prop :=
  exec c s = .next { t with dlp := { t.dlp with frame := (frameOf c).take Config.frameBufferBytes, response := none, work := some work,
                                                shiftedOut := idleBytes (frameOf c).length } }

/-! ### What rules give, in the words of statements -/

/-- What resolving logical weft `w` gives (R158): the channel `c`, and the weft map and the event unit after the switch it may make. -/
def Resolves (s : State) (w c : Nat) (map : Vector WeftEntry 8) (evs : Evs) : Prop :=
  let e := s.wsu.entry w
  let selected := match e.selection with | .primary => e.primary | .alternate => e.alternate.getD e.primary
  let other := match e.selection with | .primary => e.alternate | .alternate => some e.primary
  let turned : WeftEntry := { e with selection := match e.selection with | .primary => .alternate | .alternate => .primary }
  (s.wsu.isReady selected = true → c = selected ∧ map = s.wsu.map ∧ evs = s.evs) ∧
  (s.wsu.isReady selected = false →
    (∀ o, other = some o → s.wsu.isReady o = true → c = o ∧ map = tabSet s.wsu.map w turned ∧
      evs = { s.evs with flags := s.evs.flags ||| EventFlag.bit .weftSwitched, switched := some (w, o) }) ∧
    ((∀ o, other = some o → s.wsu.isReady o = false) → c = selected ∧ map = s.wsu.map ∧ evs = s.evs))

/-- The transfer of a record begins (R132): every ACTIVE chain shifts its share of the drive vector, and with none ACTIVE the record is
TRANSFERRED at once. -/
def TransferBegins (s t : State) (x : Pick) (runs : Runs) : Prop :=
  t.hcu = { s.hcu with chains := t.hcu.chains, transferDue := true } ∧
  (∀ i, i < 4 →
    ((s.chain i).state = .active →
      t.chain i = { s.chain i with shift := some { work := .transfer, drive := s.driveShare none x.lift i, done := false } }) ∧
    ((s.chain i).state ≠ .active → t.chain i = s.chain i)) ∧
  ((∃ i, i < 4 ∧ (s.chain i).state = .active) → t.pcm = { s.pcm with staging := some ⟨x, .transferring runs⟩ }) ∧
  ((∀ i, i < 4 → (s.chain i).state ≠ .active) → t.pcm = { s.pcm with staging := some ⟨x, .transferred runs⟩ })

/-- An echo of M × 64 + 1 values that passes the marker check: the sensed states in descending hook order, then the marker (R133). -/
def SoundEcho (hooks : Nat) (sensed : Share) (values : List ChainValue) (final : ChainValue) : Prop :=
  values.length = hooks ∧ final = .marker ∧ ∀ i, i < hooks → values[hooks - 1 - i]? = some (.level (sensed.getLsbD i))

/-- An echo of M × 64 + 1 values that fails it: no marker at the last position, or one earlier (R133). -/
def FailedEcho (hooks : Nat) (values : List ChainValue) (final : ChainValue) : Prop :=
  values.length = hooks ∧ (final ≠ .marker ∨ .marker ∈ values)

/-- A re-presentation of the shed with G `g` ends outside RUNNING with faulty chains `f` (R123, R18): the CHAIN_FAULT message alone, the
flag, and the hard stop, which in FINDING enters STOPPED. -/
def EndsInChainFault (s t : State) (g : BitVec 32) (f : BitVec 4) : Prop :=
  t.llp = { s.llp with queue := s.llp.queue ++ [.chainFault g f] } ∧ t.flag .chainFault = true ∧ t.stu.weaving = .stopped ∧
  t.stu.lastStop = some { cause := .chainFault, channel := none, mode := .immediate } ∧
  t.evs.stops = { s.evs.stops with chainFault := bump s.evs.stops.chainFault } ∧
  (s.stu.weaving = .finding → t.flag .stopped = true) ∧
  (s.stu.weaving = .stopped → t.flag .stopped = s.flag .stopped ∧ t.dlp = s.dlp)

/-- The re-presentation's strobe on a chain other than the one completing now (R121): the chains that completed show the new drive. -/
def Strobed (x y : Chain) : Prop :=
  (∀ d, x.shift = some ⟨.representation, d, true⟩ → y = { x with image := d, shift := none }) ∧
  ((∀ d, x.shift ≠ some ⟨.representation, d, true⟩) → y = x)

/-- The warp floats of lengths `low` to `high` that end when a lift is latched over some run counters (R104). -/
def endedFloats (l : Lift) (runs : Runs) (low high : Nat) : Nat :=
  (List.range 12288).countP fun h => !l.getLsbD h && decide (low ≤ runOf runs h ∧ runOf runs h ≤ high)

/-- The histogram once those floats have ended: the bins 1, 2 to 3, 4 to 7, 8 to 15, 16 to 31 and 32 (R104). -/
def FloatStats.ended (x : FloatStats) (l : Lift) (runs : Runs) : FloatStats :=
  { x with float1 := satAdd x.float1 (endedFloats l runs 1 1), float2 := satAdd x.float2 (endedFloats l runs 2 3)
           float4 := satAdd x.float4 (endedFloats l runs 4 7), float8 := satAdd x.float8 (endedFloats l runs 8 15)
           float16 := satAdd x.float16 (endedFloats l runs 16 31), float32 := satAdd x.float32 (endedFloats l runs 32 32) }

/-- The counter R107's table gives a hook from the records newest first: those before the first with λ = 0, at most the cap; the cap when
all have λ = 1 and the origin flag is clear. -/
def rebuiltRun (records : List Pick) (origin : Bool) (lwarp h : Nat) : Nat :=
  let counted := (records.takeWhile fun p => p.lift.getLsbD h).length
  let cap := if lwarp = 0 then 32 else lwarp
  if counted = records.length ∧ origin = false then cap else min cap counted

/-- The commands of the staging invalidation list that the design station sends, but for SOFT_RESET; a write of cells or of a colour map
counts when its design is that of the staging step (R93). -/
def StagingEvent (c : Instr) (s : State) (st : Staging) : Prop :=
  let design := (s.step? st.pick.seq).map (·.design)
  match c with
  | .stepCut _ | .weaveWrite _ _ _ _ | .faultPut _ _ _ | .faultRemove _ | .sectionWrite _ _ _ _ _ _ _ _ | .floatLimits _
  | .chainConfig _ _ _ | .chainProbe _ => True
  | .cells _ _ | .cellsMore _ _ => ∃ w, s.ps.window = some w ∧ design = some w.design
  | .colormapWrite d _ _ => design = some d.toNat
  | _ => False

/-- The state with its staging record, if it has one, discarded (R79, R94, R95): the chains that shift or hold a share of its transfer take
no strobe of it, and its step, when OPEN and not the shed's, is PENDING again (R40). -/
def State.discarded (s : State) : State :=
  match s.pcm.staging with
  | none => s
  | some st =>
    { s with
      pcm.staging := none
      hcu.chains := s.hcu.chains.map fun c => if c.shift.any fun x => x.work = .transfer then { c with shift := none } else c
      pq.steps := s.pq.steps.map fun x =>
        if x.seq = st.pick.seq ∧ x.state = .opened ∧ (s.ph.shed.all fun p => p.seq ≠ st.pick.seq) then
          { x with state := .waiting, rowBase := none }
        else x }

/-- What an event of the staging invalidation list does (R93, R94, R96); `u` has the event's own effect alone. With no record, or one still
COMPOSING, nothing more. A later record is discarded; outside RUNNING that is all; in RUNNING the queue is asked afresh, and the answer composed
at once: with no successor the indication is set (R33), else the record begins, its step one pass longer when starved (R34) and OPEN with its
row_base when it was PENDING (R38). A record that the engaged finger serves is checked (R165): it takes the finger's channel, or the finger is
released and waits for the channel resolved, this revolution's WEFT_SELECT counted as delivered; any other leaves finger and WEFT_SELECT as they are. -/
def Invalidated (u t : State) : Prop :=
  ((∀ st, u.pcm.staging = some st → ∃ r, st.phase = .composing r) → t = u) ∧
  ∀ st, u.pcm.staging = some st → (∀ r, st.phase ≠ .composing r) →
    let d := u.discarded
    (u.stu.weaving ≠ .running → t = d) ∧
    (u.stu.weaving = .running →
      (d.nextAnswer = .noSuccessor → t = { d with pcm.programEnd := true, pcm.marked := d.ph.shed.isSome }) ∧
      ∀ seq k starved r, d.nextAnswer = .pick seq k starved → d.step? seq = some r →
        let base := match (d.pq.steps.takeWhile fun x => x.seq ≠ seq).getLast? with
          | some x => x.rowBase.getD 0 + BitVec.ofNat 32 (x.n * x.period)
          | none => 0
        let g := match d.ph.shed with | some p => p.g + 1 | none => d.pcm.nextPick
        let begun := fun x : StepRec => { x with
          n := if starved then x.n + 1 else x.n
          state := if r.state = .waiting then .opened else x.state
          rowBase := if r.state = .waiting then some base else x.rowBase }
        (t.pcm.staging.map fun y => (y.pick.g, y.pick.seq, y.pick.t, y.phase)) =
          some (g, seq, k, .composing { slots := none, rows := [] }) ∧
        (d.wsu.servedG ≠ some g ∨ (∀ c, d.wsu.finger ≠ .engaged c) →
          t.wsu = d.wsu ∧ t.ph = d.ph ∧ t.stu.armed = d.stu.armed ∧ t.pcm.staging.bind (·.pick.channel) = none) ∧
        (∀ c y, d.wsu.servedG = some g → d.wsu.finger = .engaged c → t.pcm.staging = some y →
          ∃ x map before evs, Resolves { d with evs := before } y.pick.weft x map evs ∧
            (x = c → t.wsu = { d.wsu with map := map } ∧ t.ph = d.ph ∧ t.stu.armed = d.stu.armed ∧ y.pick.channel = some c) ∧
            (x ≠ c → t.stu.armed.weftSelect = false ∧
              (0 < d.stu.active.dead → t.ph = d.ph ∧ y.pick.channel = none ∧
                t.wsu = { d.wsu with map := map, finger := .waiting x false,
                                     release := some { dead := d.stu.active.dead, count := 0 } }))) ∧
        t = { d with
          stu := { d.stu with armed := { d.stu.armed with weftSelect := t.stu.armed.weftSelect }, sync0 := t.stu.sync0, sync1 := t.stu.sync1, wait := t.stu.wait }
          pq := { d.pq with steps := d.pq.steps.map fun x => if x.seq = seq then begun x else x }
          pcm := { d.pcm with staging := t.pcm.staging, programEnd := false, marked := false }
          ph := { d.ph with shed := t.ph.shed }
          wsu := { d.wsu with map := t.wsu.map, finger := t.wsu.finger, release := t.wsu.release, servedG := t.wsu.servedG }
          dlp := t.dlp
          evs := { d.evs with flags := t.evs.flags, opened := t.evs.opened, switched := t.evs.switched, stops := t.evs.stops } })

/-- What an accepted write to the cells or the colour map of a design does in `s` (R55, R60, R70, R71, R93); `u` is `s` with the write alone.
Nothing more when the design is not the staging step's. A composition in flight on it goes on, each read it takes before the write finding the
slots, and the row, as they stood in `s`; how many those are is free (log 3). A later record of it meets the staging invalidation list. -/
def LiveEdited (s u t : State) (id : Nat) : Prop :=
  let woven := fun st : Staging => (s.step? st.pick.seq).map (·.design) = some id
  ((∀ st, s.pcm.staging = some st → ¬ woven st) → t = u) ∧
  ∀ st, s.pcm.staging = some st → woven st →
    ((∀ r, st.phase ≠ .composing r) → Invalidated u t) ∧
    ∀ r, st.phase = .composing r → ∃ reads : Reads,
      t = { u with pcm.staging := some ⟨st.pick, .composing reads⟩, free := s.free + 1 } ∧
      (reads = r ∨
        reads.slots = some (match r.slots with
          | some l => l
          | none => (List.range 16).map fun colour => tabGet (s.slots id colour) st.pick.k none) ∧
        ∃ (row : CellMem) (m : Nat), reads.rows = r.rows ++ List.replicate m row ∧
          ∀ d col, s.design? id = some d → col < d.w →
            readCell row (d.cellAddr st.pick.row col) = readCell s.ps.cells (d.cellAddr st.pick.row col))

/-- The lowered hooks in a row that stand just before hook `h` of a section from hook `f` on (R102). -/
def runBefore (l : Nat → Bool) (f h : Nat) : Nat := ((List.range (h - f)).reverse.takeWhile fun j => !l (f + j)).length

/-- The runs of more than `lw` lowered hooks among the `c` hooks from `f` on, each counted where it ends: at a raised hook, or after the last
hook (R102). -/
def longRuns (lw : Nat) (l : Nat → Bool) (f c : Nat) : Nat :=
  (List.range (c + 1)).countP fun j => (decide (j = c) || l (f + j)) && decide (lw < runBefore l f (f + j))

/-- What the float stage makes of a lift as composed (R101, R102, R103). A hook is barred when Lwarp is not 0 and its run counter equals it. A
hook of a section is raised exactly when it is not barred and is composed raised, or has Lw lowered hooks just before it with Lw not 0. The record
counts the hooks forced down, the hooks forced up, and the runs longer than Lw that are left. -/
def FloatStage (s : State) (composed : Lift) (x : Pick) : Prop :=
  let bar := fun h : Nat => decide (s.flm.lwarp ≠ 0 ∧ runOf s.flm.runs h = s.flm.lwarp)
  (∀ i h, i < 8 → (s.section i).covers h = true →
    let sec := s.section i
    x.lift.getLsbD h = (!bar h && (composed.getLsbD h || decide (sec.lw ≠ 0 ∧ sec.lw ≤ runBefore x.lift.getLsbD sec.f h)))) ∧
  x.forcedDown = ((List.range 12288).countP fun h => composed.getLsbD h && bar h) ∧
  x.forcedUp = ((List.range 12288).countP fun h => x.lift.getLsbD h && !composed.getLsbD h) ∧
  x.unresolved = ((List.range 8).map fun i =>
    if (s.section i).lw = 0 then 0 else longRuns (s.section i).lw x.lift.getLsbD (s.section i).f (s.section i).c).sum

/-- A detail: CLAMPED when a value was clamped. -/
def clampDetail (clamped : Bool) : Detail := if clamped then .clamped else .plain

/-! ### Invariants -/

/-- The cells of the pattern store are in canonical form. -/
abbrev CellsCanonical (s : State) : Prop := s.ps.cells.wf = true

/-- The capacities of R25, R113, R143, R185, R187 and R171, and the order of the fault table (R143). -/
abbrev WithinCapacity (s : State) : Prop :=
  s.pq.steps.length ≤ 32 ∧ s.ph.ring.length ≤ 96 ∧ s.hft.entries.length ≤ 128 ∧
  s.hft.entries.Pairwise (fun x y => x.hook < y.hook) ∧ s.llp.queue.length ≤ 16 ∧ s.llp.received.length ≤ 7 ∧
  s.dlp.frame.length ≤ 1035

/-- Both angle sets satisfy the constraints of R6. -/
abbrev AnglesValid (s : State) : Prop := s.stu.active.valid = true ∧ s.stu.buffered.valid = true

/-- The staging run counters of a record, where it has them (R100). -/
def Phase.runs? : Phase → Option Runs
  | .composing _ => none
  | .composed r => some r
  | .transferring r => some r
  | .transferred r => some r

/-- Run counters within their range under a warp limit, listed by hook (R100). -/
abbrev RunsWithin (lwarp : Nat) (runs : Runs) : Prop :=
  runs.Pairwise (fun x y => x.1 < y.1) ∧ ∀ r ∈ runs, r.1 < 12288 ∧ 1 ≤ r.2 ∧ r.2 ≤ 32 ∧ (lwarp ≠ 0 → r.2 ≤ lwarp)

/-- No hook whose run counter equals the warp limit is raised (R101). -/
def LiftBarred (lwarp : Nat) (runs : Runs) (l : Lift) : Prop :=
  lwarp ≠ 0 → ∀ h, l.getLsbD h = true → runOf runs h ≠ lwarp

/-- The float limits hold: Lwarp is legal, both sets of run counters are within it, and a composed staging lift raises no hook whose
shed run counter equals it (R98, R100, R101). -/
def FloatsLimited (s : State) : Prop :=
  (s.flm.lwarp = 0 ∨ 2 ≤ s.flm.lwarp ∧ s.flm.lwarp ≤ 32) ∧ RunsWithin s.flm.lwarp s.flm.runs ∧
  ∀ st, s.pcm.staging = some st → ∀ r, st.phase.runs? = some r →
    RunsWithin s.flm.lwarp r ∧ LiftBarred s.flm.lwarp s.flm.runs st.pick.lift

/-- A chain record is consistent: DISABLED exactly with no module; a chain that is not ACTIVE has image 0; drive values of transfers and
re-presentations are shifted on ACTIVE chains only, probes and presentations on PROBING chains only (R127, R128, R132, R130, R131). -/
abbrev Chain.Sound (c : Chain) : Prop :=
  (c.state ≠ .active → c.image = 0#3072) ∧ (c.state = .disabled ↔ c.modules = 0) ∧ c.modules ≤ 48 ∧ 1 ≤ c.divisor ∧ c.divisor ≤ 64 ∧
  ∀ x ∈ c.shift.toList,
    ((x.work = .transfer ∨ x.work = .representation) → c.state = .active) ∧
    ((x.work = .probe ∨ x.work = .presentation) → c.state = .probing)

/-- The chains are consistent, and BUSY is held by exactly the work that goes on, with no response pending meanwhile (R127, R128, R171,
R173). -/
abbrev ChainsSound (s : State) : Prop :=
  (∀ c ∈ s.hcu.chains.toList, c.Sound) ∧
  (∀ pr ∈ s.hcu.probing.toList, (s.chain pr.chain.val).state = .probing) ∧
  (s.hcu.probing.isSome ↔ s.dlp.work = some .probe) ∧
  (s.stu.wait.isSome ↔ s.dlp.work = some .wait) ∧
  (s.dlp.work.isSome → s.dlp.response = none)

/-- The G values of some records rise by one from each to the next, modulo 2^32. -/
def Consecutive : List (BitVec 32) → Prop
  | [] => True
  | [_] => True
  | a :: b :: rest => b = a + 1#32 ∧ Consecutive (b :: rest)

/-- The records are numbered as R80 and R113 give: the ring and the shed consecutive, the staging pick next, the next-pick number next
after the ring when there is no shed; and no staging record in FINDING (R17). -/
def NumberedInOrder (s : State) : Prop :=
  (s.stu.weaving = .finding → s.pcm.staging = none) ∧
  Consecutive ((s.ph.ring ++ s.ph.shed.toList).map (·.g)) ∧
  (s.ph.shed = none → ∀ p, s.ph.ring.getLast? = some p → s.pcm.nextPick = p.g + 1#32) ∧
  ∀ st, s.pcm.staging = some st → st.pick.g = s.nextG

/-- CLOSED before OPEN before PENDING (R25). -/
def StepState.rank : StepState → Nat
  | .closed => 0
  | .opened => 1
  | .waiting => 2

/-- The steps the records refer to, in the order of the records: ring, shed, staging (R113). -/
def State.referred (s : State) : List (BitVec 16) :=
  (s.ph.ring ++ s.ph.shed.toList ++ s.pcm.staging.toList.map (·.pick)).map (·.seq)

/-- The queue follows the records (R25, R36, R42): at most 32 steps with distinct seq, CLOSED before OPEN before PENDING; the steps that are not
PENDING are those the records refer to, in their order; OPEN are those of the shed and of the staging pick, two at most; with no shed the
staging pick's step is a new one; and no staging record in FINDING (R17). -/
def QueueSound (s : State) : Prop :=
  s.pq.steps.length ≤ 32 ∧ s.pq.steps.Pairwise (fun x y => x.seq ≠ y.seq) ∧
  s.pq.steps.Pairwise (fun x y => x.state.rank ≤ y.state.rank) ∧
  (s.pq.steps.filter fun x => x.state ≠ .waiting).map (·.seq) = s.referred.destutter (· ≠ ·) ∧
  (∀ x ∈ s.pq.steps, x.state = .opened ↔ s.holdsStep x.seq = true) ∧ s.pq.steps.countP (·.state = .opened) ≤ 2 ∧
  (s.ph.shed = none → ∀ st, s.pcm.staging = some st → ∀ p ∈ s.ph.ring, p.seq ≠ st.pick.seq) ∧
  (s.stu.weaving = .finding → s.pcm.staging = none)

/-- A weft sequence holds 1..8 logical wefts (R156). -/
abbrev SequenceValid (l : List Nat) : Prop := 1 ≤ l.length ∧ l.length ≤ 8 ∧ ∀ w ∈ l, w < 8

/-- A weft map entry keeps the constraints WEFT_MAP_WRITE tests (R157). -/
abbrev WeftEntry.Valid (e : WeftEntry) : Prop :=
  e.primary < 8 ∧ (∀ a ∈ e.alternate.toList, a < 8 ∧ a ≠ e.primary) ∧ (e.selection = .alternate → e.alternate.isSome)

/-- The weft tables are within the ranges of R156 and R157. -/
abbrev WeftTablesValid (s : State) : Prop :=
  (∀ l ∈ s.wsu.sequences.toList, SequenceValid l) ∧ ∀ e ∈ s.wsu.map.toList, e.Valid

/-- Sections of count above 0 share no hook and cover existing hooks only (R74, R75, R129). -/
def SectionsApart (s : State) : Prop :=
  (∀ i j, i < 8 → j < 8 → i ≠ j → (s.section i).overlaps (s.section j) = false) ∧
  ∀ i, i < 8 → 0 < (s.section i).c → ∀ h, (s.section i).covers h = true → s.hookExists h = true

/-- The sections stand apart; every substitute exists, is no key, lies in no section and serves one entry (R74, R75, R129, R143, R150). -/
def SubstitutesFree (s : State) : Prop :=
  SectionsApart s ∧
  s.hft.entries.Pairwise (fun x y => x.hook < y.hook) ∧
  ∀ e ∈ s.hft.entries, ∀ x, e.spare = some x →
    s.hookExists x = true ∧ s.hft.find x = none ∧ (∀ i, i < 8 → 0 < (s.section i).c → (s.section i).covers x = false) ∧
    ∀ e' ∈ s.hft.entries, e'.spare = some x → e' = e

/-- A design has a legal size and its run lies within the store (R47, R49). -/
abbrev Design.Sound (d : Design) : Prop := 1 ≤ d.w ∧ d.w ≤ 6144 ∧ 1 ≤ d.h ∧ d.h ≤ 16384 ∧ d.base + d.blocks ≤ 65536

/-- The designs of the directory are sound and their runs share no block (R47, R50). -/
def DirectorySound (s : State) : Prop :=
  ∀ i j d e, s.design? i = some d → s.design? j = some e →
    d.Sound ∧ (i ≠ j → d.base + d.blocks ≤ e.base ∨ e.base + e.blocks ≤ d.base)

/-- The records of the state stay well formed: cells in canonical form, capacities, angle sets, weft tables, the directory. -/
abbrev RecordsWellFormed (s : State) : Prop :=
  CellsCanonical s ∧ WithinCapacity s ∧ AnglesValid s ∧ WeftTablesValid s ∧ DirectorySound s

/-- Whether the dead time of a release has still to run after the next forward step, with no finger engaged (R163). -/
def DeadTimeRuns (s : State) : Prop :=
  s.stu.weaving = .running ∧ (∀ c, s.wsu.finger ≠ .engaged c) ∧
  ∃ r, s.wsu.release = some r ∧ r.count + 1 < r.dead

end Sys2Proof.Machine
end

