-- ==== Sys2Proof/Certificates/Slice0/Obligations.lean ====
section
/-! DEFINITION. The statements for the provers. A design link command's statement says what it does while BUSY is low; what it does
while BUSY is high is said once, for all of them. -/

open Sys2Proof Sys2Proof.Machine

/-! ### The part as a machine -/

/-- A step takes the command at the front of the queue and executes it on the state with the rest; with no command the part idles
(DESIGN CHOICE, log 1). -/
def Obligations.StepTakesFrontCommand : Prop :=
  (∀ (c : Instr) (rest : List Instr) (s : State), s.pending = c :: rest → step s = exec c { s with pending := rest }) ∧
  ∀ s : State, s.pending = [] → step s = .next s

/-- POWER_ON gives every block the values the manual lists after power-on; the commands that wait and the free values go on (log 1). The
cells reading 0 is the model's choice (log 4), and so are the empty port fields of the model's own. -/
def Obligations.PowerOnValues : Prop :=
  (∀ s : State, exec .powerOn s = .next { State.reset with free := s.free, pending := s.pending }) ∧
  State.reset.stu =
    { position := 0, indexSeen := false, armed := ⟨true, true, true, true, true⟩, active := ⟨64, 320, 768, 640, 800, 32⟩,
      buffered := ⟨64, 320, 768, 640, 800, 32⟩, swap := .off, weaving := .stopped,
      modes := ⟨.immediate, .synchronous, .synchronous, .immediate⟩, lastStop := none, sync0 := false, sync1 := false,
      source0 := .off, source1 := .off, wait := none } ∧
  State.reset.pq = { steps := [], counter := 0, watermark := 2 } ∧
  (State.reset.ps.window = none ∧ ∀ id, State.reset.design? id = none) ∧
  ((∀ w, State.reset.weave w = { ww := 1, wh := 1, rows := [0] }) ∧
    ∀ id colour k, tabGet (State.reset.slots id colour) k none = none) ∧
  ((∀ i, State.reset.section i =
      { f := 0, c := 0, mode := .parked, hmode := .straight, o := 0, weave := 0, lw := 0 }) ∧
    State.reset.pcm.staging = none ∧ State.reset.pcm.nextPick = 0 ∧ State.reset.pcm.programEnd = false ∧
    State.reset.pcm.marked = false) ∧
  State.reset.flm = { lwarp := 0, runs := [] } ∧
  State.reset.ph = { shed := none, ring := [], origin := true, representing := none } ∧
  ((∀ c, State.reset.chain c = { state := .disabled, modules := 0, divisor := 8, image := 0, probe := .absent, shift := none }) ∧
    State.reset.hcu.transferDue = false ∧ State.reset.hcu.probing = none) ∧
  State.reset.hft = { entries := [], agingCounter := 0, agingPeriod := 4096, threshold := 8, position := none, fullMisses := 0,
                      spareMismatch := 0 } ∧
  ((∀ id, id < 16 → tabGet State.reset.wsu.sequences id [] = [0]) ∧
    (∀ w, w < 8 → State.reset.wsu.entry w = { primary := w, alternate := none, selection := .primary, exhausted := false } ∧
      State.reset.wsu.isReady w = true) ∧
    State.reset.wsu.finger = .off ∧ State.reset.wsu.release = none ∧ State.reset.wsu.servedG = none) ∧
  State.reset.dlp = { frame := [], response := none, work := none, shiftedOut := [] } ∧
  State.reset.llp = { received := [], queue := [], sending := none } ∧
  (State.reset.evs.flags = 0 ∧ State.reset.evs.mask = 0 ∧ State.reset.attn = false ∧ State.reset.evs.opened = none ∧
    State.reset.evs.learned = none ∧ State.reset.evs.switched = none) ∧
  ∀ c ∈ State.reset.evs.weft.list ++ State.reset.evs.floats.list ++ State.reset.evs.chains.list ++ State.reset.evs.stops.list ++
    State.reset.evs.link.list, c = 0

/-! ### The two links -/

/-- The bytes of every well-formed design link command are read back as that command. -/
def Obligations.CommandFramesReadBack : Prop :=
  ∀ c : Instr, (commandCode c).isSome → c.wf = true → parseFrame (frameOf c) = some c

/-- A bracket that carries the frame of a well-formed command does what the command does. -/
def Obligations.FrameBracketIsCommand : Prop :=
  ∀ (c : Instr) (s : State), (commandCode c).isSome → c.wf = true → exec c s = .next (s.takeBracket (frameOf c))

/-- The eight bytes of a message, received one by one from an empty buffer, do what the message does, whatever its unused payload bytes
hold. -/
def Obligations.MessageBytesAreMessage : Prop :=
  ∀ (s : State) (a b d e f g : Byte), s.llp.received = [] →
    let received := fun kind : Byte =>
      [kind, a, b, d, e, f, g, messageCheck [kind, a, b, d, e, f, g]].foldl State.receiveByte s
    exec .run s = .next (received 0x01#8) ∧ exec (.stop a b) s = .next (received 0x02#8) ∧ exec .find s = .next (received 0x03#8) ∧
    exec .pickBack s = .next (received 0x04#8) ∧ exec (.packageOut a) s = .next (received 0x05#8) ∧
    exec (.packageReady a) s = .next (received 0x06#8) ∧ exec .releaseWait s = .next (received 0x07#8) ∧
    exec .statusAsk s = .next (received 0x08#8)

/-- A bracket begun while BUSY is high is discarded whole and counted, FFh shifted out for each of its bytes, and changes nothing else: every
command, every response read and every bracket given by its bytes. What was shifted out is kept in a field of the model's own (log 10). -/
def Obligations.BusyDiscardsBrackets : Prop :=
  ∀ s : State, s.dlp.work.isSome →
    let discarded := fun n : Nat => (.next { s with evs.link.dlBusyDiscard := bump s.evs.link.dlBusyDiscard,
                                                    dlp.shiftedOut := List.replicate n 0xFF#8 } : Host.Outcome State Fault Refusal)
    (∀ c : Instr, (commandCode c).isSome → exec c s = discarded (frameOf c).length) ∧
    (∀ n, exec (.responseRead n) s = discarded (n + 1)) ∧
    ∀ bytes : List Byte, bytes ≠ [] →
      exec (.busyDiscard bytes) s = discarded bytes.length ∧ exec (.dlUnknownFrame bytes) s = discarded bytes.length ∧
      exec (.dlBadLengthFrame bytes) s = discarded bytes.length ∧ exec (.dlBadCheckFrame bytes) s = discarded bytes.length

/-- A response read while BUSY is low: the response is shifted out after one FFh, and is lost, and counted, exactly when the bracket ends
within it. A frame that fails a test is answered, with its first byte echoed, and counted, FFh having been shifted out for each of its bytes,
and has no other effect: its length, then its check, then its kind. The bytes shifted out are kept in a field of the model's own (log 10). -/
def Obligations.BracketsGivenByBytes : Prop :=
  (∀ (s : State) (n : Nat), s.dlp.work = none →
     (s.dlp.response = none →
       exec (.responseRead n) s = .next { s with dlp.shiftedOut := List.replicate (n + 1) 0xFF#8 }) ∧
     ∀ r : Response, s.dlp.response = some r →
       (n = 0 → exec (.responseRead n) s = .next { s with dlp.shiftedOut := [0xFF#8] }) ∧
       (0 < n ∧ n < r.bytes.length →
         exec (.responseRead n) s = .next { s with dlp := { s.dlp with shiftedOut := 0xFF#8 :: r.bytes.take n, response := none },
                                                   evs.link.dlLostResponse := bump s.evs.link.dlLostResponse }) ∧
       (r.bytes.length ≤ n →
         exec (.responseRead n) s =
           .next { s with dlp.shiftedOut := 0xFF#8 :: (r.bytes ++ List.replicate (n - r.bytes.length) 0xFF#8) })) ∧
  ∀ (s : State) (kind : Byte) (rest : List Byte), s.dlp.work = none → kind ≠ 0x00#8 →
    let bytes := kind :: rest
    let n := frameLength bytes
    let answer := fun (o : ReplyOutcome) (d : Detail) =>
      { s.dlp with frame := bytes.take 1035, shiftedOut := List.replicate bytes.length 0xFF#8,
                   response := some { outcome := o, kind := kind, detail := d, payload := [] } }
    let badLength := bytes.length < 5 ∨ 1030 < n ∨ bytes.length ≠ n + 5
    let badCheck := bytes16 (checkSum (bytes.take (n + 3))) ≠ bytes.drop (n + 3)
    (badLength → exec (.dlBadLengthFrame bytes) s =
      .next { s with dlp := answer .refuse .badLength, evs.link.dlBadLength := bump s.evs.link.dlBadLength }) ∧
    (¬ badLength → badCheck → exec (.dlBadCheckFrame bytes) s =
      .next { s with dlp := answer .refuse .badCheck, evs.link.dlBadCheck := bump s.evs.link.dlBadCheck }) ∧
    (¬ badLength → ¬ badCheck → isCommandCode kind = false → exec (.dlUnknownFrame bytes) s =
      .next { s with dlp := answer .unknown .plain, evs.link.dlUnknown := bump s.evs.link.dlUnknown })

/-- The loom link receiver (a wrong check, an unknown kind, a framing error, a gap), STATUS_ASK with the STATE report of the part as it stands,
and the transmit queue: a seventeenth message is dropped and counted, and the oldest leaves when it is sent. A message whose sending a soft reset
outlived leaves before the queue does (log 16). A framing error counts once whatever the time since the byte before it (log 28). The report
holds the finger state, which its bytes do not show (log 26). -/
def Obligations.LoomLink : Prop :=
  (∀ s : State,
     (∀ m : Vector Byte 8, m[7] ≠ messageCheck (m.toList.take 7) →
       exec (.llMessageBadCheck m) s =
         .next { s with llp.received := [], evs.link.linkErrors := bump s.evs.link.linkErrors }) ∧
     (∀ m : Vector Byte 8, m[7] = messageCheck (m.toList.take 7) → isMessageKind m[0] = false → s.llp.queue.length < 16 →
       exec (.llUnknownKind m) s =
         .next { s with llp := { s.llp with received := [], queue := s.llp.queue ++ [.refused m[0] .unknown] },
                        evs.link.llUnknown := bump s.evs.link.llUnknown }) ∧
     (∀ m : Vector Byte 8, m[7] = messageCheck (m.toList.take 7) → isMessageKind m[0] = false → 16 ≤ s.llp.queue.length →
       exec (.llUnknownKind m) s =
         .next { s with llp.received := [], evs.link.llUnknown := bump s.evs.link.llUnknown,
                        evs.link.llTxDropped := bump s.evs.link.llTxDropped }) ∧
     exec .llFramingError s = .next { s with llp.received := [], evs.link.linkErrors := bump s.evs.link.linkErrors } ∧
     ∀ (held : List Byte) (b : Byte), s.llp.received = [] → 1 ≤ held.length → held.length ≤ 7 →
       exec (.llByteGap held b) s =
         .next { s with llp.received := [b], evs.link.linkErrors := bump s.evs.link.linkErrors }) ∧
  ∀ s : State,
    let report : StateReport :=
      { weaving := s.stu.weaving, shedG := s.ph.shed.map fun p => p.g.setWidth 16,
        tag := s.ph.shed.bind fun p => (s.step? p.seq).bind fun r => r.tag, channel := s.ph.shed.bind fun p => p.channel,
        clamped := false, representing := s.ph.representing.isSome, finger := s.wsu.finger }
    (s.llp.queue.length < 16 → exec .statusAsk s =
      .next { s with llp := { s.llp with received := [], queue := s.llp.queue ++ [.state report] } }) ∧
    (16 ≤ s.llp.queue.length → exec .statusAsk s =
      .next { s with llp.received := [], evs.link.llTxDropped := bump s.evs.link.llTxDropped }) ∧
    (s.llp.sending = none → exec .llMessageSent s = .next { s with llp.queue := s.llp.queue.drop 1 }) ∧
    (s.llp.sending.isSome → exec .llMessageSent s = .next { s with llp.sending := none })

/-! ### Shaft timing -/

/-- Steps that bring no event. A forward step outside RUNNING, where the armed events at the new position fire and disarm and nothing else
happens, and in RUNNING where none is armed there and no engagement waits, with the release count going up; the step in RUNNING that completes a
dead time, which engages the READY channel selected for the pick due; a backward step, which moves the position and nothing else; an illegal
transition, which counts a slip once the index has been seen. -/
def Obligations.QuietSteps : Prop :=
  (∀ (s : State) (early : BitVec 4),
     let next := (s.stu.position + 1).val
     let a := s.stu.active
     let stu : Stu := { s.stu with
       position := s.stu.position + 1
       armed := { compose := s.stu.armed.compose && decide (a.compose ≠ next)
                  transfer := s.stu.armed.transfer && decide (a.transfer ≠ next)
                  latch := s.stu.armed.latch && decide (a.latch ≠ next)
                  weftRelease := s.stu.armed.weftRelease && decide (a.weftRelease ≠ next)
                  weftSelect := s.stu.armed.weftSelect && decide (a.weftSelect ≠ next) } }
     (s.stu.weaving ≠ .running → exec (.forwardStep early) s = .next { s with stu := stu }) ∧
     (s.stu.weaving = .running → s.stu.firedAt next = [] → (∀ c b, s.wsu.finger ≠ .waiting c b) →
       exec (.forwardStep early) s =
         .next { s with stu := stu, wsu.release := s.wsu.release.map fun r => { r with count := min (r.count + 1) 255 } }) ∧
     ∀ x b r w, s.stu.weaving = .running → s.stu.firedAt next = [] → s.wsu.finger = .waiting x b → s.wsu.release = some r →
       r.count + 1 = r.dead → r.dead ≤ 255 → s.pickDue.weft? = some w → s.wsu.isReady (s.wsu.entry w).selected = true →
       ∃ t, exec (.deadTimeComplete early) s = .next t ∧ t.stu = stu ∧ t.evs = s.evs ∧
         t.wsu = { s.wsu with finger := .engaged (s.wsu.entry w).selected, release := none, servedG := t.wsu.servedG } ∧
         t = { s with stu := t.stu, pcm := t.pcm, ph := t.ph, wsu := t.wsu, evs := t.evs }) ∧
  ∀ s : State,
    exec .backwardStep s = .next { s with stu.position := s.stu.position - 1 } ∧
    (s.stu.indexSeen = true → exec .illegalTransition s =
      .next { s with evs.link.encoderSlip := bump s.evs.link.encoderSlip }) ∧
    (s.stu.indexSeen = false → exec .illegalTransition s = .next s)

/-- A backward index crossing: position 1023, index seen, a slip when the index had been seen and the position was not 0; no re-arming, no
swap, no sync flag. -/
def Obligations.BackwardIndexCrossing : Prop :=
  ∀ s : State,
    (s.stu.position ≠ 0 ∧ s.stu.indexSeen = true → exec .backwardIndexCrossing s =
      .next { s with stu.position := 1023, evs.link.encoderSlip := bump s.evs.link.encoderSlip }) ∧
    (s.stu.position = 0 ∨ s.stu.indexSeen = false → exec .backwardIndexCrossing s =
      .next { s with stu.position := 1023, stu.indexSeen := true })

/-- A forward index crossing with no engagement outstanding and no wait pending: position 0, every event armed, the swap where the arming
calls for one, the INDEX sync flags, the transfer-due flag clear, the slip. -/
def Obligations.ForwardIndexCrossing : Prop :=
  ∀ s : State, (∀ c b, s.wsu.finger ≠ .waiting c b) → s.wsu.release = none → s.stu.wait = none →
    let swaps := s.stu.swap = .nextPick ∨ s.stu.swap = .nextStep ∧ ∃ p, s.ph.shed = some p ∧ p.t = 0
    let slips := s.stu.indexSeen = true ∧ s.stu.position ≠ 1023
    ∃ t, exec .forwardIndexCrossing s = .next t ∧
      t = { s with stu := t.stu, hcu.transferDue := false, evs := t.evs } ∧
      t.stu = { s.stu with position := 0, indexSeen := true, armed := ⟨true, true, true, true, true⟩, active := t.stu.active,
                           swap := t.stu.swap, sync0 := s.stu.sync0 || decide (s.stu.source0 = .index),
                           sync1 := s.stu.sync1 || decide (s.stu.source1 = .index) } ∧
      t.evs = { s.evs with flags := t.evs.flags, link := t.evs.link } ∧
      (swaps → t.stu.active = s.stu.buffered ∧ t.stu.swap = .off ∧ t.evs.flags = s.evs.flags ||| EventFlag.bit .anglesSwapped) ∧
      (¬ swaps → t.stu.active = s.stu.active ∧ t.stu.swap = s.stu.swap ∧ t.evs.flags = s.evs.flags) ∧
      (slips → t.evs.link = { s.evs.link with encoderSlip := bump s.evs.link.encoderSlip }) ∧
      (¬ slips → t.evs.link = s.evs.link)

/-- An engagement outstanding at a forward index crossing in RUNNING, its dead time still running, is carried: WEFT_LATE is raised and
counted, a stop is requested, and a released finger waits for the channel of the pick due. One that a crossing has already carried is not
counted again, and no stop is requested for it (log 17). -/
def Obligations.EngagementCarriedPastIndex : Prop :=
  ∀ (s : State) (r : Release), s.stu.weaving = .running → s.wsu.release = some r → r.count + 1 < r.dead →
    s.llp.queue.length < 16 → (∃ w, s.pickDue.weft? = some w ∧ s.wsu.isReady (s.wsu.entry w).selected = true) →
    (∀ c, s.wsu.finger ≠ .engaged c) →
    ∃ t, exec .forwardIndexCrossing s = .next t ∧ t.stu.weaving = .running ∧
      t.wsu.release = some { r with count := min (r.count + 1) 255 } ∧
      ((∀ c, s.wsu.finger ≠ .waiting c true) → t.flag .weftLate = true ∧
        t.evs.weft = { s.evs.weft with weftLate := bump s.evs.weft.weftLate } ∧
        t.llp = { s.llp with queue := s.llp.queue ++ [.stopRequest .weftLate] }) ∧
      (∀ c, s.wsu.finger = .waiting c true → t.flag .weftLate = s.flag .weftLate ∧ t.evs.weft = s.evs.weft ∧ t.llp = s.llp) ∧
      (∀ c b, s.wsu.finger = .waiting c b → t.wsu.finger = .waiting c true) ∧
      (s.wsu.finger = .off → ∀ w, s.pickDue.weft? = some w → t.wsu.finger = .waiting (s.wsu.entry w).selected true) ∧
      t = { s with stu := t.stu, hcu := { s.hcu with transferDue := false }, wsu := t.wsu, dlp := t.dlp, llp := t.llp, evs := t.evs }

/-- ANGLES_WRITE, ANGLES_ARM and ANGLES_READ; STOP_MODE_WRITE; SYNC_SOURCE, SYNC_SET and SYNC_CLEAR: their tests, their effects and
their responses. The coding of the two flag values is the model's reading (log 7), and the form of the stop-mode table its choice (log 11). -/
def Obligations.TimingUnitCommands : Prop :=
  (∀ s : State, s.dlp.work = none →
     (∀ (co tr la wr ws : BitVec 16) (dead : Byte),
       let legal := 0 < co.toNat ∧ co.toNat < tr.toNat ∧ tr.toNat < la.toNat ∧ la.toNat ≤ 1023 ∧ 0 < wr.toNat ∧ wr.toNat < la.toNat ∧
         wr.toNat < ws.toNat ∧ ws.toNat ≤ 1023
       (legal → Accepts (.anglesWrite co tr la wr ws dead) s .plain []
         { s with stu.buffered := ⟨co.toNat, tr.toNat, la.toNat, wr.toNat, ws.toNat, dead.toNat⟩ }) ∧
       (¬ legal → Refuses (.anglesWrite co tr la wr ws dead) s .badField)) ∧
     (Accepts (.anglesArm 0) s .plain [] { s with stu.swap := .off } ∧
       Accepts (.anglesArm 1) s .plain [] { s with stu.swap := .nextPick } ∧
       Accepts (.anglesArm 2) s .plain [] { s with stu.swap := .nextStep } ∧
       ∀ mode : Byte, 3 ≤ mode.toNat → Refuses (.anglesArm mode) s .badField) ∧
     Accepts .anglesRead s .plain
       (u16 s.stu.active.compose ++ u16 s.stu.active.transfer ++ u16 s.stu.active.latch ++ u16 s.stu.active.weftRelease ++
         u16 s.stu.active.weftSelect ++ u8 s.stu.active.dead ++ u16 s.stu.buffered.compose ++ u16 s.stu.buffered.transfer ++
         u16 s.stu.buffered.latch ++ u16 s.stu.buffered.weftRelease ++ u16 s.stu.buffered.weftSelect ++ u8 s.stu.buffered.dead ++
         u8 (match s.stu.swap with | .off => 0 | .nextPick => 1 | .nextStep => 2)) s) ∧
  (∀ (s : State) (cause mode : Byte), s.dlp.work = none →
     let m : StopMode := if mode = 0 then .immediate else .synchronous
     let table := fun x : StopModes => u8 x.weftBreak.code ++ u8 x.warpBreak.code ++ u8 x.operator.code ++ u8 x.external.code
     let sets := fun x : StopModes => Accepts (.stopModeWrite cause mode) s .plain (table x) { s with stu.modes := x }
     (1 < mode.toNat ∨ cause.toNat = 0 ∨ 4 < cause.toNat → Refuses (.stopModeWrite cause mode) s .badField) ∧
     (mode.toNat ≤ 1 →
       (cause = 1 → sets { s.stu.modes with weftBreak := m }) ∧ (cause = 2 → sets { s.stu.modes with warpBreak := m }) ∧
       (cause = 3 → sets { s.stu.modes with operator := m }) ∧ (cause = 4 → sets { s.stu.modes with external := m }))) ∧
  ∀ s : State, s.dlp.work = none →
    (∀ (flag source : Byte) (src : SyncSource), syncSourceOf source = some src →
      (flag = 0 → Accepts (.syncSource flag source) s .plain [] { s with stu.source0 := src }) ∧
      (flag = 1 → Accepts (.syncSource flag source) s .plain [] { s with stu.source1 := src })) ∧
    (∀ flag source : Byte, 1 < flag.toNat ∨ 6 < source.toNat → Refuses (.syncSource flag source) s .badField) ∧
    ∀ mask : Byte,
      let values := fun a b : Bool => [if a then 1#8 else 0#8, if b then 1#8 else 0#8]
      let set0 := s.stu.sync0 || mask.getLsbD 0
      let set1 := s.stu.sync1 || mask.getLsbD 1
      let clear0 := s.stu.sync0 && !mask.getLsbD 0
      let clear1 := s.stu.sync1 && !mask.getLsbD 1
      (mask.toNat < 4 → Accepts (.syncSet mask) s .plain (values set0 set1) { s with stu.sync0 := set0, stu.sync1 := set1 } ∧
        Accepts (.syncClear mask) s .plain (values clear0 clear1) { s with stu.sync0 := clear0, stu.sync1 := clear1 }) ∧
      (4 ≤ mask.toNat → Refuses (.syncSet mask) s .badField ∧ Refuses (.syncClear mask) s .badField)

/-- WAIT_SYNC is refused for an empty or unknown mask or another combination, answered at once when its condition is met, and else pending
with BUSY held; a timeout of 0 is clamped to 1. A pending wait ends by expiry, by RELEASE_WAIT, or by a source that meets its condition; a source
that does not meet it only sets its flags: entry into STOPPED, the index crossing and the first latch are shown. With no wait pending an expiry
changes nothing and RELEASE_WAIT only sets both flags. The form of the two flags in an answer, and their values in an answer RELEASED, are the
model's reading (log 7). -/
def Obligations.Waits : Prop :=
  (∀ (s : State) (mask combination clear : Byte) (timeout : BitVec 16), s.dlp.work = none →
     let c := Instr.waitSync mask combination clear timeout
     let bad := mask = 0 ∨ 4 ≤ mask.toNat ∨ 2 ≤ combination.toNat ∨ 2 ≤ clear.toNat
     let m0 := mask.getLsbD 0
     let m1 := mask.getLsbD 1
     let met := if combination = 0 then (m0 → s.stu.sync0) ∧ (m1 → s.stu.sync1) else (m0 ∧ s.stu.sync0) ∨ (m1 ∧ s.stu.sync1)
     (bad → Refuses c s .badField) ∧
     (¬ bad → met → Accepts c s (if timeout = 0 then .clamped else .plain)
       [if s.stu.sync0 then 1#8 else 0#8, if s.stu.sync1 then 1#8 else 0#8]
       { s with stu.sync0 := s.stu.sync0 && !(decide (clear = 1) && m0), stu.sync1 := s.stu.sync1 && !(decide (clear = 1) && m1) }) ∧
     (¬ bad → ¬ met → Holds c s .wait
       { s with stu.wait := some { mask0 := m0, mask1 := m1, all := decide (combination = 0), clear := decide (clear = 1),
                                   timeout := max timeout.toNat 1, clamped := decide (timeout = 0) } })) ∧
  ∀ s : State,
    let flags := fun a b : Bool => [if a then 1#8 else 0#8, if b then 1#8 else 0#8]
    let answered := fun (o : ReplyOutcome) (d : Detail) (p : List Byte) =>
      { s.dlp with response := some { outcome := o, kind := 0x17#8, detail := d, payload := p }, work := none }
    (s.stu.wait = none → exec .waitTimeout s = .next s ∧
      exec .releaseWait s =
        .next (State.sendState { s with llp.received := [], stu.sync0 := true, stu.sync1 := true } false)) ∧
    ∀ w, s.stu.wait = some w →
      let occurs := fun (source : SyncSource) (t : State) =>
        let a := s.stu.sync0 || decide (s.stu.source0 = source)
        let b := s.stu.sync1 || decide (s.stu.source1 = source)
        let met := if w.all then (w.mask0 → a) ∧ (w.mask1 → b) else (w.mask0 ∧ a) ∨ (w.mask1 ∧ b)
        (met → t.stu.wait = none ∧ t.stu.sync0 = (a && !(w.clear && w.mask0)) ∧ t.stu.sync1 = (b && !(w.clear && w.mask1)) ∧
          t.dlp = answered .accept (if w.clamped then .clamped else .plain) (flags a b)) ∧
        (¬ met → t.stu.wait = some w ∧ t.stu.sync0 = a ∧ t.stu.sync1 = b ∧ t.dlp = s.dlp)
      exec .waitTimeout s =
        .next { s with stu.wait := none, dlp := answered .refuse .timeout (flags s.stu.sync0 s.stu.sync1) } ∧
      exec .releaseWait s =
        .next (State.sendState { s with llp.received := [], stu.sync0 := true, stu.sync1 := true, stu.wait := none,
                                        dlp := answered .refuse .released (flags true true) } false) ∧
      (∀ cause channel, s.stu.weaving ≠ .stopped → ∃ t, exec (.stop cause channel) s = .next t ∧ occurs .stopped t) ∧
      (∃ t, exec .forwardIndexCrossing s = .next t ∧ occurs .index t) ∧
      ∀ early p runs, s.stu.weaving = .running → s.stu.firedAt (s.stu.position + 1).val = [.latch] →
        (∀ c b, s.wsu.finger ≠ .waiting c b) → s.ph.shed = none → s.pcm.staging = some ⟨p, .transferred runs⟩ →
        ∃ t, exec (.forwardStep early) s = .next t ∧ occurs .latchDone t

/-! ### Weaving states and stops -/

/-- RUN is tested condition by condition; the first that fails is the refusal, and the message has no other effect; with none failing it
is taken. -/
def Obligations.RunRefusals : Prop :=
  ∀ s : State,
    let refused := fun why : Reason => exec .run s = .next (State.send { s with llp.received := [] } (.refused 0x01#8 why))
    let c1 := s.stu.weaving = .stopped ∨ s.stu.weaving = .finding
    let c2 := s.ph.representing = none
    let c3 := s.stu.position.val < s.stu.active.compose
    let c4 := ∃ r ∈ s.pq.steps, r.state = .opened ∨ r.state = .waiting
    let c5 := (∃ c ∈ s.hcu.chains.toList, c.state ≠ .disabled) ∧ ∀ c ∈ s.hcu.chains.toList, c.state ≠ .disabled → c.state = .active
    (¬ c1 → refused .wrongState) ∧ (c1 → ¬ c2 → refused .busy) ∧ (c1 → c2 → ¬ c3 → refused .notAtStart) ∧
    (c1 → c2 → c3 → ¬ c4 → refused .noProgram) ∧ (c1 → c2 → c3 → c4 → ¬ c5 → refused .chainNotReady) ∧
    (c1 → c2 → c3 → c4 → c5 → ∃ t, exec .run s = .next t ∧ t.stu.weaving = .running ∧ s.runRefusal = none)

/-- RUN taken: RUNNING, the events above the position armed and the others not, the transfer-due flag clear, RUN_ACK; with a shed, its logical
weft is resolved, which may switch, the finger of the channel found is engaged at once, and the shed's channel, unless it has one, and
served G are written. The next composition asks afresh, which the model holds as a mark (log 24). -/
def Obligations.RunTaken : Prop :=
  ∀ s : State, s.runRefusal = none → s.llp.queue.length < 16 →
    let a := s.stu.active
    let x := s.stu.position.val
    let stu : Stu := { s.stu with
      weaving := .running
      armed := { compose := decide (x < a.compose), transfer := decide (x < a.transfer), latch := decide (x < a.latch),
                 weftRelease := decide (x < a.weftRelease), weftSelect := decide (x < a.weftSelect) } }
    let ran : State := { s with
      stu := stu, hcu.transferDue := false, pcm.marked := false, llp := { s.llp with received := [], queue := s.llp.queue ++ [.runAck] } }
    (s.ph.shed = none → exec .run s = .next ran) ∧
    ∀ p, s.ph.shed = some p → ∃ c map evs, Resolves s p.weft c map evs ∧
      exec .run s = .next { ran with
        evs := evs, ph.shed := some { p with channel := some (p.channel.getD c) }
        wsu := { s.wsu with map := map, servedG := some p.g, finger := .engaged c,
                            release := if s.wsu.finger = .engaged c then s.wsu.release else none } }

/-- STOP outside RUNNING: the record is written, the cause counted, the answer a STATE report with the clamp flag; from FINDING the state
becomes STOPPED, with its flag and its sync sources. FIND: taken in STOPPED alone; the staging record is discarded, the finger released, the
shed, the ring and the images as they were; the answer is a STATE report. -/
def Obligations.StopAndFindOutsideRunning : Prop :=
  (∀ (s : State) (cause channel : Byte),
     let c : Cause := if cause = 1 then .weftBreak else if cause = 2 then .warpBreak else if cause = 3 then .operator else .external
     let mode : StopMode := match c with
       | .weftBreak => s.stu.modes.weftBreak | .warpBreak => s.stu.modes.warpBreak | .operator => s.stu.modes.operator
       | _ => s.stu.modes.external
     let ch : Option Nat := if cause = 1 ∧ channel.toNat < 8 then some channel.toNat else none
     let clamped := decide (cause = 0 ∨ 4 < cause.toNat ∨ cause = 1 ∧ 8 ≤ channel.toNat ∧ channel ≠ 0xFF#8)
     let record : Option LastStop := some { cause := c, channel := ch, mode := mode }
     (s.stu.weaving = .stopped → exec (.stop cause channel) s =
       .next (State.sendState { s with llp.received := [], stu.lastStop := record, evs.stops := s.evs.stops.count c } clamped)) ∧
     (s.stu.weaving = .finding → ∃ t, exec (.stop cause channel) s = .next t ∧ t.stu.weaving = .stopped ∧
       t.stu.lastStop = record ∧ t.flag .stopped = true ∧ t.evs.stops = s.evs.stops.count c ∧
       t = { s with stu := t.stu, dlp := t.dlp, llp := t.llp, evs := t.evs } ∧
       t.stu.position = s.stu.position ∧ t.stu.armed = s.stu.armed ∧ t.stu.active = s.stu.active) ∧
     (s.stu.weaving = .finding → s.stu.wait = none → s.llp.queue.length < 16 → exec (.stop cause channel) s = .next { s with
       stu := { s.stu with weaving := .stopped, lastStop := record, sync0 := s.stu.sync0 || decide (s.stu.source0 = .stopped),
                           sync1 := s.stu.sync1 || decide (s.stu.source1 = .stopped) }
       evs := { s.evs with flags := s.evs.flags ||| EventFlag.bit .stopped, stops := s.evs.stops.count c }
       llp := { s.llp with received := [], queue := s.llp.queue ++ [.state { s.report clamped with weaving := .stopped }] } })) ∧
  ∀ s : State,
    (s.stu.weaving ≠ .stopped → exec .find s = .next (State.send { s with llp.received := [] } (.refused 0x03#8 .wrongState))) ∧
    (s.stu.weaving = .stopped → ∃ t, exec .find s = .next t ∧ t.stu = { s.stu with weaving := .finding } ∧
      t.pcm = { s.pcm with staging := none } ∧ t.wsu = { s.wsu with finger := .off, release := none, servedG := none } ∧
      t = { s with stu := t.stu, pq := t.pq, pcm := t.pcm, hcu := t.hcu, wsu := t.wsu, llp := t.llp, evs := t.evs } ∧
      (s.llp.queue.length < 16 → t.evs = s.evs ∧
        t.llp = { s.llp with received := [], queue := s.llp.queue ++ [.state { s.report false with weaving := .finding, finger := .off }] }) ∧
      (s.pcm.staging.isSome → t.shifting .transfer = false) ∧
      ∀ i, i < 4 → (t.chain i).image = (s.chain i).image ∧ (t.chain i).state = (s.chain i).state)

/-- STOP in RUNNING. IMMEDIATE: no staging record, no chain shifting for a transfer, the images, the shed, the history and the run counters
as they were. SYNCHRONOUS: the staging record and the chains go on as they are. Both: STOPPED, its flag and its sync sources (a pending wait is
the business of the statement on waits), the last stop record, the STATE report with the clamp flag; a WAITING engagement cancelled, an
ENGAGED finger kept, no release record. Served G keeps its value, which is the model's reading where an engagement is cancelled (log 12). -/
def Obligations.StopInRunning : Prop :=
  ∀ (s : State) (cause channel : Byte), s.stu.weaving = .running →
    let c : Cause := if cause = 1 then .weftBreak else if cause = 2 then .warpBreak else if cause = 3 then .operator else .external
    let mode : StopMode := match c with
      | .weftBreak => s.stu.modes.weftBreak | .warpBreak => s.stu.modes.warpBreak | .operator => s.stu.modes.operator
      | _ => s.stu.modes.external
    let ch : Option Nat := if cause = 1 ∧ channel.toNat < 8 then some channel.toNat else none
    let clamped := decide (cause = 0 ∨ 4 < cause.toNat ∨ cause = 1 ∧ 8 ≤ channel.toNat ∧ channel ≠ 0xFF#8)
    ∃ t, exec (.stop cause channel) s = .next t ∧
      t.stu.weaving = .stopped ∧ t.flag .stopped = true ∧ t.stu.lastStop = some { cause := c, channel := ch, mode := mode } ∧
      t.evs.stops = s.evs.stops.count c ∧
      (s.stu.wait = none → t.stu.sync0 = (s.stu.sync0 || decide (s.stu.source0 = .stopped)) ∧
        t.stu.sync1 = (s.stu.sync1 || decide (s.stu.source1 = .stopped)) ∧ t.dlp = s.dlp) ∧
      (s.llp.queue.length < 16 → t.llp = { s.llp with
        received := [], queue := s.llp.queue ++ [.state { s.report clamped with weaving := .stopped, finger := t.wsu.finger }] }) ∧
      (∀ x b, s.wsu.finger = .waiting x b → t.wsu.finger = .off) ∧ (∀ x, s.wsu.finger = .engaged x → t.wsu.finger = .engaged x) ∧
      t.wsu.release = none ∧ t.wsu.servedG = s.wsu.servedG ∧
      t = { s with stu := t.stu, pq := t.pq, pcm := t.pcm, hcu := t.hcu, wsu := t.wsu, dlp := t.dlp, llp := t.llp, evs := t.evs } ∧
      t.stu.position = s.stu.position ∧ t.stu.armed = s.stu.armed ∧
      (mode = .immediate → t.pcm = { s.pcm with staging := none } ∧
        (s.pcm.staging.isSome → t.shifting .transfer = false) ∧
        ∀ i, i < 4 → (t.chain i).image = (s.chain i).image ∧ (t.chain i).state = (s.chain i).state) ∧
      (mode = .synchronous → t.pcm = s.pcm ∧ t.hcu = s.hcu ∧ t.pq = s.pq)

/-- The weaving state changes only by the causes of R10's table. RUNNING is entered by RUN where RUN is taken; FINDING by FIND from STOPPED, the
staging record and the finger gone; STOPPED, with its flag raised, by STOP, by a LATCH of a forward step in RUNNING (PATTERN_LATE, CHAIN_FAULT,
PROGRAM_END), or by a chain's completion that fails its marker check or ends a re-presentation with a faulty chain. A gap row carries bytes of
several messages and is left out; power-on puts STOPPED. A command out of its range, such as an unknown message whose bytes are those of RUN, is
none that a link gives (log 20). -/
def Obligations.WeavingStateChanges : Prop :=
  ∀ (c : Instr) (s t : State), c.wf = true → c ≠ .powerOn → (∀ held b, c ≠ .llByteGap held b) → exec c s = .next t →
    t.stu.weaving ≠ s.stu.weaving →
    (t.stu.weaving = .running → c = .run ∧ s.runRefusal = none) ∧
    (t.stu.weaving = .finding → c = .find ∧ s.stu.weaving = .stopped ∧ t.pcm.staging = none ∧ t.wsu.finger = .off) ∧
    (t.stu.weaving = .stopped → t.flag .stopped = true ∧
      ((∃ cause channel, c = .stop cause channel) ∨
       (s.stu.weaving = .running ∧ .latch ∈ s.stu.firedAt (s.stu.position + 1).val ∧
         ∃ early, c = .forwardStep early ∨ c = .deadTimeComplete early) ∨
       ∃ chain values final, c = .chainShiftComplete chain values final ∧
         (FailedEcho ((s.chain chain.val).modules * 64) values final ∨ ∃ r, s.ph.representing = some r ∧ r.faulty ≠ 0)))

/-! ### Pick finding and package messages -/

/-- PICK_BACK is tested condition by condition; the first that fails is the refusal, and the message has no other effect. -/
def Obligations.PickBackRefusals : Prop :=
  ∀ s : State,
    let refused := fun why : Reason => exec .pickBack s = .next (State.send { s with llp.received := [] } (.refused 0x04#8 why))
    let c1 := s.stu.weaving = .finding
    let c2 := s.ph.representing = none
    let c3 := 1 ≤ s.ph.ring.length
    let c4 := s.ph.origin = true ∨ 33 ≤ s.ph.ring.length
    (¬ c1 → refused .wrongState) ∧ (c1 → ¬ c2 → refused .busy) ∧ (c1 → c2 → ¬ c3 → refused .empty) ∧
    (c1 → c2 → c3 → ¬ c4 → refused .reverseLimit)

/-- PICK_BACK taken: the newest ring record becomes the shed as it was woven, the old shed is gone, the queue reopens and returns steps, every
run counter is counted back from the new shed through the ring, the program-end indication is clear, and with it the mark of a last shed (log
24); the re-presentation shifts on every ACTIVE chain, or, with none, ends at once with BACK_DONE. No channel, counter, table or design changes. -/
def Obligations.PickBackTaken : Prop :=
  ∀ (s : State) (older : List Pick) (p : Pick), s.stu.weaving = .finding → s.ph.representing = none → s.pcm.staging = none →
    s.ph.ring = older ++ [p] → (s.ph.origin = true ∨ 33 ≤ s.ph.ring.length) → s.shifting .representation = false →
    s.llp.queue.length < 16 →
    ∃ t, exec .pickBack s = .next t ∧ t.ph.shed = some p ∧ t.ph.ring = older ∧ t.ph.origin = s.ph.origin ∧
      t.pcm = { s.pcm with programEnd := false, marked := false } ∧
      t.flm = { s.flm with runs := rebuiltRuns { s.ph with shed := some p, ring := older } s.flm.lwarp } ∧
      (∀ h, h < 12288 → runOf t.flm.runs h = rebuiltRun (p :: older.reverse) s.ph.origin s.flm.lwarp h) ∧
      t.pq = { s.pq with steps := s.pq.steps.map fun r =>
        if r.seq = p.seq then (if r.state = .closed then { r with state := .opened } else r)
        else if (s.ph.shed.any fun q => q.seq = r.seq) ∧ r.state = .opened then { r with state := .waiting, rowBase := none }
        else r } ∧
      t = { s with pq := t.pq, pcm := t.pcm, flm := t.flm, ph := t.ph, hcu := t.hcu, llp := t.llp } ∧
      ((∃ i, i < 4 ∧ (s.chain i).state = .active) →
        t.ph.representing = some { g := p.g, faulty := 0 } ∧ t.llp = { s.llp with received := [] } ∧
        ∀ i, i < 4 → (t.chain i).image = (s.chain i).image ∧
          ((s.chain i).state = .active →
            (t.chain i).shift = some { work := .representation, drive := s.driveShare none p.lift i, done := false })) ∧
      ((∀ i, i < 4 → (s.chain i).state ≠ .active) →
        t.ph.representing = none ∧ t.llp = { s.llp with received := [], queue := s.llp.queue ++ [.backDone p.g] })

/-- PACKAGE_OUT and PACKAGE_READY: a channel above 7 is refused; else the status, the entries that switch or are exhausted or cleared, the
WEFT_SWITCHED flag with the highest logical weft switched as its detail, the count, one stop request when an exhausted field is newly set, and
the STATE report; the finger does not move. -/
def Obligations.PackageMessages : Prop :=
  ∀ (s : State) (channel : Byte), s.llp.queue.length < 15 →
    let n := channel.toNat
    let refused := fun kind : Byte =>
      { s with llp := { s.llp with received := [], queue := s.llp.queue ++ [.refused kind .badField] } }
    (8 ≤ n → exec (.packageOut channel) s = .next (refused 0x05#8) ∧ exec (.packageReady channel) s = .next (refused 0x06#8)) ∧
    (n < 8 →
      (let ready := tabSet s.wsu.ready n false
       let after : Wsu := { s.wsu with ready := ready }
       let out : WeftEntry → WeftEntry := fun e =>
         if e.selected = n then match after.spare e with | some _ => e.switched | none => { e with exhausted := true } else e
       let newly := ∃ w, w < 8 ∧ (s.wsu.entry w).exhausted = false ∧ (out (s.wsu.entry w)).exhausted = true
       let switches := fun w c : Nat => w < 8 ∧ (s.wsu.entry w).selected = n ∧ after.spare (s.wsu.entry w) = some c
       ∃ t, exec (.packageOut channel) s = .next t ∧ t.wsu.ready = ready ∧ (∀ w, w < 8 → t.wsu.entry w = out (s.wsu.entry w)) ∧
         t.wsu.finger = s.wsu.finger ∧ t.wsu.release = s.wsu.release ∧ t.wsu.servedG = s.wsu.servedG ∧
         t.wsu.sequences = s.wsu.sequences ∧
         t.evs = { s.evs with flags := t.evs.flags, switched := t.evs.switched,
                              weft := { s.evs.weft with packageOut := countAt s.evs.weft.packageOut n 1 } } ∧
         (∀ f : EventFlag, f ≠ .weftSwitched → f ≠ .weftExhausted → t.flag f = s.flag f) ∧
         (∀ w c, switches w c → (∀ v d, w < v → ¬ switches v d) → t.flag .weftSwitched = true ∧ t.evs.switched = some (w, c)) ∧
         ((∀ w c, ¬ switches w c) → t.flag .weftSwitched = s.flag .weftSwitched ∧ t.evs.switched = s.evs.switched) ∧
         (newly → t.flag .weftExhausted = true ∧
           t.llp = { s.llp with received := [], queue := s.llp.queue ++ [.stopRequest .weftExhausted, .state (s.report false)] }) ∧
         (¬ newly → t.flag .weftExhausted = s.flag .weftExhausted ∧
           t.llp = { s.llp with received := [], queue := s.llp.queue ++ [.state (s.report false)] }) ∧
         t = { s with wsu := t.wsu, llp := t.llp, evs := t.evs }) ∧
      (let ready := tabSet s.wsu.ready n true
       let after : Wsu := { s.wsu with ready := ready }
       let cleared : WeftEntry → WeftEntry := fun e =>
         if e.selected = n ∨ (after.spare e).isSome then { e with exhausted := false } else e
       ∃ t, exec (.packageReady channel) s = .next t ∧ t.wsu.ready = ready ∧
         (∀ w, w < 8 → t.wsu.entry w = cleared (s.wsu.entry w)) ∧
         t.llp = { s.llp with received := [], queue := s.llp.queue ++ [.state (s.report false)] } ∧
         t = { s with wsu := { s.wsu with ready := ready, map := t.wsu.map }, llp := t.llp }))

/-! ### The weft finger -/

/-- WEFT_RELEASE, WEFT_SELECT and the completion of a dead time, each the one thing a forward step in RUNNING brings. The weft concerned is
resolved first, which may switch it to its other channel; WEFT_RELEASE then releases a finger that stands elsewhere, WEFT_SELECT keeps or
releases the finger, engages the channel or waits for it, and the completion of the dead time engages the channel of the pick due. With no pick due
nothing is engaged. Served G keeps its value at a release (log 12); WAITING with no successor keeps its tentative channel (DESIGN CHOICE, log 29). DEAD_TIME_COMPLETE is that forward step, and changes nothing where the next
step completes no dead time (log 8). -/
def Obligations.FingerEvents : Prop :=
  (∀ (s : State) (early : BitVec 4), s.stu.weaving = .running →
    let fired := s.stu.firedAt (s.stu.position + 1).val
    let fresh : Release := { dead := s.stu.active.dead, count := 0 }
    let counted : Option Release := s.wsu.release.map fun r => { r with count := min (r.count + 1) 255 }
    let complete := ∀ r, counted = some r → r.dead ≤ r.count
    let moved : State := { s with stu := s.stu.forward, wsu.release := counted }
    let goes := fun t : State => exec (.forwardStep early) s = .next t
    let g := match s.pickDue with
      | .shed p => p.g
      | .staging p => p.g
      | _ => match s.ph.shed with | some p => p.g + 1 | none => s.pcm.nextPick
    let ph := fun c : Nat => match s.pickDue with
      | .shed p => { s.ph with shed := some { p with channel := some c } }
      | _ => s.ph
    let pcm := fun c : Nat => match s.pickDue with
      | .staging p => { s.pcm with staging := s.pcm.staging.map fun x => { x with pick := { p with channel := some c } } }
      | _ => s.pcm
    let engaged := fun (c : Nat) (map : Vector WeftEntry 8) (evs : Evs) (release : Option Release) =>
      { moved with evs := evs, ph := ph c, pcm := pcm c
                   wsu := { s.wsu with map := map, finger := .engaged c, servedG := some g, release := release } }
    (fired = [.weftRelease] → (∀ x b, s.wsu.finger = .waiting x b → ¬ complete) →
      (s.weftAnswer = none →
        ((∀ x, s.wsu.finger ≠ .engaged x) → goes moved) ∧
        ∀ x, s.wsu.finger = .engaged x → goes { moved with wsu := { s.wsu with finger := .off, release := some fresh } }) ∧
      ∀ w, s.weftAnswer = some w → ∃ c map evs, Resolves s w c map evs ∧
        (s.wsu.finger = .off ∨ s.wsu.finger = .engaged c → goes { moved with evs := evs, wsu.map := map }) ∧
        (∀ x, s.wsu.finger = .engaged x → x ≠ c →
          goes { moved with evs := evs, wsu := { s.wsu with map := map, finger := .off, release := some fresh } }) ∧
        ∀ x b, s.wsu.finger = .waiting x b → goes { moved with evs := evs, wsu.map := map, wsu.finger := .waiting c b }) ∧
    (fired = [.weftSelect] → (∀ x b, s.wsu.finger = .waiting x b → ¬ complete) →
      (s.pickDue.weft? = none →
        ((∀ x b, s.wsu.finger ≠ .waiting x b) → goes moved) ∧
        ∀ x b, s.wsu.finger = .waiting x b → goes { moved with wsu.finger := .off, wsu.servedG := none }) ∧
      ∀ w, s.pickDue.weft? = some w → ∃ c map evs, Resolves s w c map evs ∧
        (s.wsu.finger = .engaged c → goes (engaged c map evs counted)) ∧
        (s.wsu.finger = .off → complete → goes (engaged c map evs none)) ∧
        (s.wsu.finger = .off → ¬ complete → goes { moved with evs := evs, wsu.map := map, wsu.finger := .waiting c false }) ∧
        (∀ x b, s.wsu.finger = .waiting x b → goes { moved with evs := evs, wsu.map := map, wsu.finger := .waiting c b }) ∧
        ∀ x, s.wsu.finger = .engaged x → x ≠ c →
          (0 < fresh.dead →
            goes { moved with evs := evs, wsu := { s.wsu with map := map, finger := .waiting c false, release := some fresh } }) ∧
          (fresh.dead = 0 → goes (engaged c map evs none))) ∧
    ∀ r x b, fired = [] → s.wsu.finger = .waiting x b → s.wsu.release = some r → r.count + 1 = r.dead → r.dead ≤ 255 →
      exec (.deadTimeComplete early) s = exec (.forwardStep early) s ∧
      (s.pickDue.weft? = none → goes { moved with wsu.finger := .off, wsu.servedG := none }) ∧
      ∀ w, s.pickDue.weft? = some w → ∃ c map evs, Resolves s w c map evs ∧ goes (engaged c map evs none) ∧
        exec (.deadTimeComplete early) s = .next (engaged c map evs none)) ∧
  ∀ (s : State) (early : BitVec 4),
    ¬ (s.stu.weaving = .running ∧ (∃ x b, s.wsu.finger = .waiting x b) ∧ ∃ r, s.wsu.release = some r ∧ r.count + 1 = r.dead) →
    exec (.deadTimeComplete early) s = .next s

/-- While the weaving state stays RUNNING, no finger is engaged before DEAD forward steps have passed since the release: while the dead
time runs on past the next step, no command engages one. A gap row carries bytes of several messages and is left out. -/
def Obligations.DeadTimeHolds : Prop :=
  ∀ (c : Instr) (s t : State), (∀ held b, c ≠ .llByteGap held b) → DeadTimeRuns s → exec c s = .next t →
    t.stu.weaving = .running →
    (∀ x, t.wsu.finger ≠ .engaged x) ∧
    ∃ r x, s.wsu.release = some r ∧ t.wsu.release = some x ∧ x.dead = r.dead ∧ (x.count = r.count ∨ x.count = min (r.count + 1) 255)

/-! ### The pick cycle -/

/-- The successor of pick t of a step, the five cases in order; what a question asks for with a shed and without one; the weft selector's
question, answered by the staging pick or as the composer's would be; and the pick due, the first that applies. -/
def Obligations.SuccessorCases : Prop :=
  (∀ (q : List StepRec) (s : StepRec) (t : Nat),
    let follows := (stepsAfter q s.seq).find? fun r => r.state = .waiting
    (t + 1 < s.picks → successorIn q s t = .pick s.seq (t + 1) false) ∧
    (¬ t + 1 < s.picks → ∀ r, follows = some r → successorIn q s t = .pick r.seq 0 false) ∧
    (¬ t + 1 < s.picks → follows = none → s.stopAtEnd = true → successorIn q s t = .noSuccessor) ∧
    (¬ t + 1 < s.picks → follows = none → s.stopAtEnd = false → s.n < 4095 → successorIn q s t = .pick s.seq (t + 1) true) ∧
    (¬ t + 1 < s.picks → follows = none → s.stopAtEnd = false → ¬ s.n < 4095 → successorIn q s t = .noSuccessor)) ∧
  ∀ s : State,
    let first := s.pq.steps.find? fun r => r.state = .waiting
    (∀ p r, s.ph.shed = some p → s.step? p.seq = some r → s.nextAnswer = successorIn s.pq.steps r p.t) ∧
    (s.ph.shed = none → (∀ r, first = some r → s.nextAnswer = .pick r.seq 0 false) ∧ (first = none → s.nextAnswer = .noSuccessor)) ∧
    (∀ x, s.pcm.staging = some x → s.weftAnswer = some x.pick.weft) ∧
    (s.pcm.staging = none → (s.nextAnswer = .noSuccessor → s.weftAnswer = none) ∧
      ∀ seq t b r, s.nextAnswer = .pick seq t b → s.step? seq = some r →
        let sequence := tabGet s.wsu.sequences r.weftSeq []
        s.weftAnswer = some (sequence.getD (t % sequence.length) 0)) ∧
    (∀ p, s.ph.shed = some p → p.channel = none → s.pickDue = .shed p) ∧
    ((∀ p, s.ph.shed = some p → p.channel ≠ none) →
      (∀ x, s.pcm.staging = some x → s.pickDue = .staging x.pick) ∧
      (s.pcm.staging = none → (∀ w, s.weftAnswer = some w → s.pickDue = .answer w) ∧ (s.weftAnswer = none → s.pickDue = .nothing)))

/-- COMPOSE delivered in RUNNING, alone on its step and with no release counted: let pass when the staging record is not EMPTY or the shed is
marked last (log 24); with no successor the indication is set and a shed is marked last; with a successor in a step that is not PENDING the record
is begun with its G, design row, sub-pick and logical weft, a step that runs short being extended by one pass with PROGRAM_STARVED. With the finger
engaged for its G its weft is resolved: the record takes the finger's channel, or the finger is released and waits for another, served G
standing (log 12), or, with no dead time to wait for, is engaged there at once; where another channel is found, this
revolution's WEFT_SELECT counts as delivered, which the model holds by disarming it (log 27). -/
def Obligations.ComposeDelivered : Prop :=
  ∀ (s : State) (early : BitVec 4), s.stu.weaving = .running → s.stu.firedAt (s.stu.position + 1).val = [.compose] →
    (∀ c b, s.wsu.finger ≠ .waiting c b) → s.wsu.release = none →
    let moved := { s with stu := s.stu.forward }
    (s.pcm.staging.isSome ∨ s.pcm.marked = true → exec (.forwardStep early) s = .next moved) ∧
    (s.pcm.staging = none → s.pcm.marked = false → s.nextAnswer = .noSuccessor →
      exec (.forwardStep early) s = .next { moved with pcm.programEnd := true, pcm.marked := s.ph.shed.isSome }) ∧
    ∀ seq t starved r, s.pcm.staging = none → s.pcm.marked = false → s.nextAnswer = .pick seq t starved → s.step? seq = some r →
      r.state ≠ .waiting →
      let l := r.rowLast + 1 - r.rowFirst
      let period := match r.vmode with | .straight => l | .point => max 1 (2 * l - 2)
      let u := t / r.p % period
      let row := match r.vmode with
        | .straight => r.rowFirst + u
        | .point => if u < l then r.rowFirst + u else r.rowFirst + (2 * l - 2 - u)
      let sequence := tabGet s.wsu.sequences r.weftSeq []
      let weft := sequence.getD (t % sequence.length) 0
      let g := match s.ph.shed with | some p => p.g + 1#32 | none => s.pcm.nextPick
      let record := fun channel : Option Nat => (some
        { pick := { g := g, seq := r.seq, t := t, row := row, k := t % r.p, weft := weft, channel := channel, lift := 0, forcedDown := 0,
                    forcedUp := 0, unresolved := 0 }
          phase := .composing { slots := none, rows := [] } } : Option Staging)
      let begun : State := { moved with
        pcm.programEnd := false
        pcm.staging := record none
        pq.steps := if starved then s.pq.steps.map fun x => if x.seq = seq then { x with n := x.n + 1 } else x else s.pq.steps
        evs := if starved then { s.evs with flags := s.evs.flags ||| EventFlag.bit .programStarved,
                                            stops := { s.evs.stops with starved := bump s.evs.stops.starved } } else s.evs }
      (s.wsu.servedG ≠ some g ∨ (∀ x, s.wsu.finger ≠ .engaged x) → exec (.forwardStep early) s = .next begun) ∧
      ∀ x, s.wsu.servedG = some g → s.wsu.finger = .engaged x → ∃ c map evs, Resolves begun weft c map evs ∧
        (x = c → exec (.forwardStep early) s = .next { begun with evs := evs, wsu.map := map, pcm.staging := record (some c) }) ∧
        (x ≠ c → 0 < s.stu.active.dead → exec (.forwardStep early) s = .next { begun with
          stu.armed.weftSelect := false
          evs := evs
          wsu := { s.wsu with map := map, finger := .waiting c false, release := some { dead := s.stu.active.dead, count := 0 } } }) ∧
        (x ≠ c → s.stu.active.dead = 0 → (∀ p, s.ph.shed = some p → p.channel ≠ none) → exec (.forwardStep early) s = .next { begun with
          stu.armed.weftSelect := false
          evs := evs
          wsu := { s.wsu with map := map, finger := .engaged c, release := none }
          pcm.staging := record (some c) })

/-- A PENDING step opens as its pick 0 enters staging, for the first pick of the program or after the last pick of the shed's step: OPEN with the
row_base after the record before it, STEP_OPENED with its detail, and QUEUE_LOW when too few PENDING records are left. -/
def Obligations.StepOpens : Prop :=
  ∀ (s : State) (early : BitVec 4) (before after : List StepRec) (r : StepRec), s.stu.weaving = .running →
    s.stu.firedAt (s.stu.position + 1).val = [.compose] → s.wsu.finger = .off → s.wsu.release = none →
    s.pcm.staging = none → s.pcm.marked = false →
    (s.ph.shed = none ∨ ∃ p x, s.ph.shed = some p ∧ s.step? p.seq = some x ∧ x ∈ before ∧ x.n * x.period * x.p ≤ p.t + 1) →
    s.pq.steps = before ++ r :: after →
    (∀ x ∈ before, x.state ≠ .waiting ∧ x.seq ≠ r.seq) → (∀ x ∈ after, x.seq ≠ r.seq) → r.state = .waiting →
    let base := match before.getLast? with
      | some x => x.rowBase.getD 0 + BitVec.ofNat 32 (x.n * x.period)
      | none => 0
    let left := countSteps after .waiting
    let g := match s.ph.shed with | some p => p.g + 1 | none => s.pcm.nextPick
    ∃ t, exec (.forwardStep early) s = .next t ∧
      t.pq = { s.pq with steps := before ++ { r with state := .opened, rowBase := some base } :: after } ∧
      t.flag .stepOpened = true ∧ t.evs.opened = some (r.seq, r.tag) ∧ (left < s.pq.watermark → t.flag .queueLow = true) ∧
      (s.pq.watermark ≤ left → t.flag .queueLow = s.flag .queueLow) ∧
      (t.pcm.staging.map fun x => (x.pick.seq, x.pick.t, x.pick.g)) = some (r.seq, 0, g) ∧
      t.pcm = { s.pcm with staging := t.pcm.staging, programEnd := false } ∧
      t = { s with stu := t.stu, pq := t.pq, pcm := t.pcm, dlp := t.dlp, evs := t.evs }

/-- COMPOSITION_END: the record is COMPOSED with its staging run counters. A hook of a FIXED section takes the bit of its weave: barred by the
warp limit it is lowered, else raised where the bit is, and lowered where the bit is not and no weft limit is set; a hook of a PARKED section and a
hook in no section is lowered. With sections apart, the lift and the three counts are what the float stage makes of the lift that the same
composition gives with no limit set. TRANSFER delivered sets the transfer-due flag. In RUNNING and when due the transfer of a
COMPOSED record begins, at the later of the two: every ACTIVE chain shifts its share, and with none the record is TRANSFERRED at once; otherwise
nothing else changes. -/
def Obligations.CompositionEnds : Prop :=
  (∀ (s : State) (p : Pick) (r : Reads), s.pcm.staging = some ⟨p, .composing r⟩ →
    ∃ t x, exec .compositionEnd s = .next t ∧ (t.pcm.staging.map (·.pick)) = some x ∧
      (x.g, x.seq, x.t, x.row, x.k, x.weft, x.channel) = (p.g, p.seq, p.t, p.row, p.k, p.weft, p.channel) ∧
      (let runs := (raisedHooks x.lift).map fun h => (h, min (runOf s.flm.runs h + 1) 32)
       (s.stu.weaving ≠ .running ∨ s.hcu.transferDue = false → t = { s with pcm.staging := some ⟨x, .composed runs⟩ }) ∧
       (s.stu.weaving = .running → s.hcu.transferDue = true → s.shifting .transfer = false → TransferBegins s t x runs)) ∧
      t = { s with pcm := t.pcm, hcu := t.hcu } ∧
      (let unlimited : State := { s with flm.lwarp := 0, pcm.sections := s.pcm.sections.map fun y => { y with lw := 0 } }
       ∃ u y, exec .compositionEnd unlimited = .next u ∧ (u.pcm.staging.map (·.pick)) = some y ∧
         (y.forcedDown, y.forcedUp, y.unresolved) = (0, 0, 0) ∧ (SectionsApart s → FloatStage s y.lift x)) ∧
      ∀ h, h < 12288 →
        ((∀ i, i < 8 → (s.section i).covers h = false) → x.lift.getLsbD h = false) ∧
        ∀ i, i < 8 → (s.section i).covers h = true → (∀ j, j < 8 → j ≠ i → (s.section j).covers h = false) →
          let sec := s.section i
          (sec.mode = .parked → sec.lw = 0 → x.lift.getLsbD h = false) ∧
          let bit := (s.weave sec.weave).bit (p.g.toNat % (s.weave sec.weave).wh) ((h - sec.f) % (s.weave sec.weave).ww)
          let barred := s.flm.lwarp ≠ 0 ∧ runOf s.flm.runs h = s.flm.lwarp
          (sec.mode = .fixed → (barred → x.lift.getLsbD h = false) ∧
            (¬ barred → (bit = true → x.lift.getLsbD h = true) ∧ (bit = false → sec.lw = 0 → x.lift.getLsbD h = false)))) ∧
  ∀ (s : State) (early : BitVec 4), s.stu.weaving = .running → s.stu.firedAt (s.stu.position + 1).val = [.transfer] →
    (∀ c b, s.wsu.finger ≠ .waiting c b) → s.wsu.release = none →
    let moved : State := { s with stu := s.stu.forward, hcu.transferDue := true }
    ((∀ x runs, s.pcm.staging ≠ some ⟨x, .composed runs⟩) → exec (.forwardStep early) s = .next moved) ∧
    ∀ x runs, s.pcm.staging = some ⟨x, .composed runs⟩ → s.shifting .transfer = false →
      ∃ t, exec (.forwardStep early) s = .next t ∧ TransferBegins s t x runs ∧ t = { moved with pcm := t.pcm, hcu := t.hcu }

/-- A hook of a DESIGN section: its design column, the colour of its cell, the slot of that colour for the sub-pick, and the bit of the slot's
weave, inverted or not; lowered when the slot is absent. The map and the row are what reads already taken found, or stand as they are. Barred by the
warp limit the hook is lowered, else raised where its bit is, and lowered where it is not and no weft limit is set. -/
def Obligations.DesignHookLift : Prop :=
  ∀ (s : State) (p : Pick) (r : Reads) (step : StepRec) (d : Design) (i h : Nat), s.pcm.staging = some ⟨p, .composing r⟩ →
    s.step? p.seq = some step → s.design? step.design = some d → 0 < d.w → i < 8 → h < 12288 →
    (s.section i).covers h = true → (∀ j, j < 8 → j ≠ i → (s.section j).covers h = false) →
    (s.section i).mode = .design →
    let sec := s.section i
    let j := h - sec.f
    let m := (sec.o + j) % max 1 (2 * d.w - 2)
    let col := match sec.hmode with
      | .straight => (sec.o + j) % d.w
      | .point => if m < d.w then m else 2 * d.w - 2 - m
    let block := d.base + p.row * ((d.w + 511) / 512) + col / 512
    let before := (List.range i).countP fun k => decide (0 < (s.section k).c ∧ (s.section k).mode = .design)
    let colour := (readCell (r.rows.getD before s.ps.cells) (block * 512 + col % 512)).toNat
    let slot := match r.slots with | some slots => slots.getD colour none | none => tabGet (s.slots step.design colour) p.k none
    let counter := (step.rowBase.getD 0 + BitVec.ofNat 32 (p.t / step.p)).toNat
    let bit := match slot with
      | none => false
      | some y => (s.weave y.weave).bit ((counter + y.ys) % (s.weave y.weave).wh) ((j + y.xs) % (s.weave y.weave).ww) != y.invert
    let barred := s.flm.lwarp ≠ 0 ∧ runOf s.flm.runs h = s.flm.lwarp
    ∃ t x, exec .compositionEnd s = .next t ∧ (t.pcm.staging.map (·.pick)) = some x ∧
      (barred → x.lift.getLsbD h = false) ∧
      (¬ barred → (bit = true → x.lift.getLsbD h = true) ∧ (bit = false → sec.lw = 0 → x.lift.getLsbD h = false))

/-- The weft scan of a section with a limit Lw: it keeps the number of hooks, lowers none, and raises exactly the lowered hooks that the warp
limit does not bar and that have Lw or more lowered hooks just before them. It counts the hooks it raises as forced up, and as unresolved the runs of
more than Lw lowered hooks that it leaves: with none of them no Lw + 1 hooks in a row are lowered, and with no hook barred there is none. -/
def Obligations.WeftScanLimitsFloats : Prop :=
  ∀ (lw : Nat) (bar : Nat → Bool) (f : Nat) (bits : List Bool),
    let x := weftScan lw bar f 0 bits
    let raised := fun i : Nat => x.bits.getD i false
    x.bits.length = bits.length ∧
    (∀ i : Nat, bits[i]? = some true → x.bits[i]? = some true) ∧
    (∀ i : Nat, bits[i]? = some false → x.bits[i]? = some (!bar (f + i) && decide (lw ≤ runBefore raised 0 i))) ∧
    x.down = 0 ∧ x.up = ((List.range bits.length).countP fun i => raised i && !bits.getD i false) ∧
    x.unresolved = longRuns lw raised 0 bits.length ∧
    ((∀ i, i < bits.length → bar (f + i) = false) → x.unresolved = 0) ∧
    (x.unresolved = 0 → ∀ i, i + lw < bits.length → ∃ j, j ≤ lw ∧ x.bits[i + j]? = some true)

/-- LATCH with a TRANSFERRED record, alone on its step: the warp floats that end are counted by length, the record is the shed and its run
counters are promoted, its counts are added, ACTIVE chains show what was shifted. With no old shed the ring, the counts and the queue stand. The
old shed joins the ring and is counted; a full ring drops its oldest record, and a CLOSED step that no record refers to any longer leaves the
queue; the old shed's step, when the new shed lies in another, is CLOSED with STEP_CLOSED. -/
def Obligations.PickLatch : Prop :=
  ∀ (s : State) (early : BitVec 4) (p : Pick) (runs : Runs), s.stu.weaving = .running →
    s.stu.firedAt (s.stu.position + 1).val = [.latch] → (∀ c b, s.wsu.finger ≠ .waiting c b) →
    s.pcm.staging = some ⟨p, .transferred runs⟩ → s.ph.ring.length ≤ 96 →
    ∃ t, exec (.forwardStep early) s = .next t ∧ t.ph.shed = some p ∧ t.pcm.staging = none ∧
      t.flm = { s.flm with runs := runs } ∧ t.stu.weaving = .running ∧ t.wsu.finger = s.wsu.finger ∧
      t = { s with stu := t.stu, pq := t.pq, pcm := t.pcm, flm := t.flm, ph := t.ph, hcu := t.hcu, hft := t.hft, wsu := t.wsu,
                   dlp := t.dlp, evs := t.evs } ∧
      t.hcu.transferDue = s.hcu.transferDue ∧ (0 < p.unresolved → t.flag .floatUnresolved = true) ∧
      (RunsWithin s.flm.lwarp s.flm.runs → t.evs.floats = { s.evs.floats.ended p.lift s.flm.runs with
        forcedDown := satAdd s.evs.floats.forcedDown p.forcedDown, forcedUp := satAdd s.evs.floats.forcedUp p.forcedUp
        unresolved := satAdd s.evs.floats.unresolved p.unresolved }) ∧
      (∀ i, i < 4 → (t.chain i).state = (s.chain i).state ∧
        (∀ d b, (s.chain i).state = .active → (s.chain i).shift = some ⟨.transfer, d, b⟩ → (t.chain i).image = d) ∧
        ((s.chain i).state ≠ .active → (t.chain i).image = (s.chain i).image)) ∧
      (s.ph.shed = none → t.ph.ring = s.ph.ring ∧ t.pcm.nextPick = s.pcm.nextPick ∧ t.evs.weft = s.evs.weft ∧ t.hft = s.hft ∧
        t.pq = s.pq) ∧
      ∀ old, s.ph.shed = some old → t.pcm.nextPick = old.g + 1 ∧ t.evs.weft.woven = bump s.evs.weft.woven ∧
        (∀ c, old.channel = some c → t.evs.weft.wovenCh = countAt s.evs.weft.wovenCh c 1) ∧
        (s.ph.ring.length < 96 → t.ph.ring = s.ph.ring ++ [old] ∧ t.ph.origin = s.ph.origin) ∧
        (s.ph.ring.length = 96 → t.ph.ring = (s.ph.ring ++ [old]).drop 1 ∧ t.ph.origin = false) ∧
        (∀ kept : List StepRec,
          (let freed := fun seq : BitVec 16 => s.ph.ring.length = 96 ∧ (s.ph.ring.head?.map (·.seq)) = some seq ∧
             (∀ q ∈ (s.ph.ring ++ [old]).drop 1, q.seq ≠ seq) ∧ ∃ x, s.step? seq = some x ∧ x.state = .closed
           (∀ seq, freed seq → kept = s.pq.steps.filter fun x => x.seq ≠ seq) ∧ ((∀ seq, ¬ freed seq) → kept = s.pq.steps)) →
          (old.seq = p.seq → t.pq = { s.pq with steps := kept } ∧ t.flag .stepClosed = s.flag .stepClosed) ∧
          (old.seq ≠ p.seq → t.flag .stepClosed = true ∧
            t.pq = { s.pq with steps := kept.map fun x => if x.seq = old.seq then { x with state := .closed } else x })) ∧
        (s.hft.agingCounter + 1 < s.hft.agingPeriod →
          t.hft = { s.hft with agingCounter := s.hft.agingCounter + 1 }) ∧
        (s.hft.agingPeriod ≤ s.hft.agingCounter + 1 →
          t.hft = { s.hft with agingCounter := 0, entries := s.hft.entries.filterMap FaultEntry.age })

/-- LATCH with a record not yet TRANSFERRED: PATTERN_LATE is raised, counted and stopped on, the record is gone, the shed and the ring stand.
With no chain cut off that had shown its marker already, every image stands; each chain that had is ISOLATED with image 0 and counted, CHAIN_FAULT
is raised, and one CHAIN_FAULT hard stop is taken beside PATTERN_LATE, the two in a free order (log 2). -/
def Obligations.PatternLate : Prop :=
  ∀ (s : State) (early : BitVec 4) (x : Staging), s.stu.weaving = .running → s.stu.firedAt (s.stu.position + 1).val = [.latch] →
    (∀ c b, s.wsu.finger ≠ .waiting c b) → s.pcm.staging = some x → (∀ runs, x.phase ≠ .transferred runs) →
    let cut := fun i : Nat => early.getLsbD i = true ∧ ∃ d, (s.chain i).shift = some ⟨.transfer, d, false⟩
    let stop := fun c : Cause => (some { cause := c, channel := none, mode := .immediate } : Option LastStop)
    let marks := fun (t : State) (i : Nat) => tabGet t.evs.chains.markerFault i 0#32
    ((∀ i, i < 4 → ¬ cut i) → s.llp.queue.length < 16 →
      ∃ t, exec (.forwardStep early) s = .next t ∧ t.stu.weaving = .stopped ∧ t.pcm = { s.pcm with staging := none } ∧
        t.shifting .transfer = false ∧ t.flag .patternLate = true ∧ t.flag .stopped = true ∧
        t.evs.chains = { s.evs.chains with patternLate := bump s.evs.chains.patternLate } ∧
        t.evs.stops = { s.evs.stops with patternLate := bump s.evs.stops.patternLate } ∧ t.stu.lastStop = stop .patternLate ∧
        t.llp = { s.llp with queue := s.llp.queue ++ [.stopRequest .patternLate] } ∧ t.wsu.finger = s.wsu.finger ∧
        t = { s with stu := t.stu, pq := t.pq, pcm := t.pcm, hcu := t.hcu, wsu := t.wsu, dlp := t.dlp, llp := t.llp, evs := t.evs } ∧
        ∀ i, i < 4 → (t.chain i).image = (s.chain i).image ∧ (t.chain i).state = (s.chain i).state) ∧
    ((∃ i, i < 4 ∧ cut i) → s.llp.queue.length < 15 →
      ∃ t a b, exec (.forwardStep early) s = .next t ∧ (a = .patternLate ∧ b = .chainFault ∨ a = .chainFault ∧ b = .patternLate) ∧
        t.stu.weaving = .stopped ∧ t.pcm = { s.pcm with staging := none } ∧ t.shifting .transfer = false ∧
        t.flag .patternLate = true ∧ t.flag .chainFault = true ∧ t.flag .stopped = true ∧
        t.evs.chains = { s.evs.chains with patternLate := bump s.evs.chains.patternLate, markerFault := t.evs.chains.markerFault } ∧
        t.evs.stops = { s.evs.stops with patternLate := bump s.evs.stops.patternLate, chainFault := bump s.evs.stops.chainFault } ∧
        t.stu.lastStop = stop b ∧ t.llp = { s.llp with queue := s.llp.queue ++ [.stopRequest a, .stopRequest b] } ∧
        t.wsu.finger = s.wsu.finger ∧
        t = { s with stu := t.stu, pq := t.pq, pcm := t.pcm, hcu := t.hcu, wsu := t.wsu, dlp := t.dlp, llp := t.llp, evs := t.evs,
                     free := t.free } ∧
        ∀ i, i < 4 →
          (cut i → (t.chain i).state = .isolated ∧ (t.chain i).image = 0 ∧ (t.chain i).modules = (s.chain i).modules ∧
            marks t i = bump (marks s i)) ∧
          (¬ cut i → (t.chain i).image = (s.chain i).image ∧ (t.chain i).state = (s.chain i).state ∧ marks t i = marks s i))

/-- LATCH at program end: every ACTIVE chain's image is 0, the shed is woven and gone, its step CLOSED with STEP_CLOSED, every warp float has
ended and is counted by length, PROGRAM_END is raised and stopped on. A full ring's drop is as at any latch. -/
def Obligations.ProgramEndLatch : Prop :=
  ∀ (s : State) (early : BitVec 4), s.stu.weaving = .running → s.stu.firedAt (s.stu.position + 1).val = [.latch] →
    (∀ c b, s.wsu.finger ≠ .waiting c b) → s.pcm.staging = none → s.llp.queue.length < 16 →
    (s.pcm.programEnd = true → ∃ t, exec (.forwardStep early) s = .next t ∧ t.ph.shed = none ∧ t.flm = { s.flm with runs := [] } ∧
      t.stu.weaving = .stopped ∧ t.flag .programEnd = true ∧
      t.stu.lastStop = some { cause := .programEnd, channel := none, mode := .immediate } ∧
      t.llp = { s.llp with queue := s.llp.queue ++ [.stopRequest .programEnd] } ∧
      t = { s with stu := t.stu, pq := t.pq, pcm := t.pcm, flm := t.flm, ph := t.ph, hcu := t.hcu, hft := t.hft, wsu := t.wsu,
                   dlp := t.dlp, llp := t.llp, evs := t.evs } ∧
      (RunsWithin s.flm.lwarp s.flm.runs → t.evs.floats = s.evs.floats.ended 0 s.flm.runs) ∧
      (∀ i, i < 4 → (t.chain i).state = (s.chain i).state ∧ ((s.chain i).state = .active → (t.chain i).image = 0)) ∧
      (s.ph.shed = none → t.ph.ring = s.ph.ring ∧ t.evs.weft = s.evs.weft ∧ t.pq = s.pq) ∧
      ∀ old, s.ph.shed = some old → t.flag .stepClosed = true ∧ t.pcm.nextPick = old.g + 1 ∧
        t.evs.weft.woven = bump s.evs.weft.woven ∧
        (s.ph.ring.length < 96 → t.ph.ring = s.ph.ring ++ [old] ∧
          t.pq = { s.pq with steps := s.pq.steps.map fun x => if x.seq = old.seq then { x with state := .closed } else x }) ∧
        (s.ph.ring.length = 96 → t.ph.ring = (s.ph.ring ++ [old]).drop 1 ∧ t.ph.origin = false)) ∧
    (s.pcm.programEnd = false → s.wsu.release = none → exec (.forwardStep early) s = .next { s with stu := s.stu.forward })

/-! ### Hook chains and the hook fault table -/

/-- The drive value of a hook that exists, by the chain it lies on, the entry it keys and the entry it serves. -/
def Obligations.DriveMapping : Prop :=
  ∀ (s : State) (l : Lift) (h : Nat), h < 12288 → s.hookExists h = true →
    let c := h / 3072
    let value := (s.driveShare none l c).getLsbD (h % 3072)
    ((s.chain c).state ≠ .active → value = false) ∧
    ((s.chain c).state = .active →
      (∀ e, s.hft.find h = some e → e.isLearned = false → value = false) ∧
      ((∀ e, s.hft.find h = some e → e.isLearned = true) →
        (∀ e, s.hft.substituted h = some e → value = (s.hookExists e.hook && l.getLsbD e.hook)) ∧
        (s.hft.substituted h = none → value = l.getLsbD h)))

/-- The values a shift puts into a chain: the marker, then the drive values, the highest hook first. A chain completes with its marker in place.
In a transfer it waits for the strobe with its image as it was, and the record is TRANSFERRED when no other chain shifts; with the echo as the image
nothing else changes; one mismatching hook is counted, and the fault table learns it, refreshes its entry and may ask for a stop, leaves a STATIC
entry, or counts a substitute or a full table. In a re-presentation the last chain to complete strobes those that completed, and BACK_DONE, or the
CHAIN_FAULT message with its stop, answers. In a presentation the chain alone is strobed and becomes ACTIVE, and the probe is answered. That a shed
which has changed meanwhile, as its G shows, is presented again without a strobe, the mismatches counted afresh, is the model's reading (log 9). -/
def Obligations.ChainCompletes : Prop :=
  (∀ (c : Chain) (d : Share),
     let values := c.valuesIn d
     values.length = c.modules * 64 + 1 ∧ values[0]? = some .marker ∧
     ∀ i, i < c.modules * 64 → values[c.modules * 64 - i]? = some (.level (d.getLsbD i))) ∧
  ∀ (s : State) (c : Fin 4) (d sensed : Share) (values : List ChainValue) (final : ChainValue),
    SoundEcho ((s.chain c.val).modules * 64) sensed values final →
    let k := s.chain c.val
    let hooks := k.modules * 64
    let done := Instr.chainShiftComplete c values final
    let same := ∀ i, i < hooks → sensed.getLsbD i = k.image.getLsbD i
    let finished := fun w => { k with shift := some ⟨w, d, true⟩ }
    let last := fun w => ∀ i, i < 4 → i ≠ c.val → ∀ x, (s.chain i).shift = some x → x.work ≠ w ∨ x.done = true
    (∀ p runs, k.shift = some ⟨.transfer, d, false⟩ → s.pcm.staging = some ⟨p, .transferring runs⟩ →
      ∃ t, exec done s = .next t ∧ t.hcu = { s.hcu with chains := tabSet s.hcu.chains c.val (finished .transfer) } ∧
        (last .transfer → t.pcm = { s.pcm with staging := some ⟨p, .transferred runs⟩ }) ∧ (¬ last .transfer → t.pcm = s.pcm) ∧
        (same → t = { s with hcu := t.hcu, pcm := t.pcm }) ∧
        ∀ i, i < hooks → (∀ j, j < hooks → (sensed.getLsbD j ≠ k.image.getLsbD j ↔ j = i)) →
          s.hft.entries.Pairwise (fun x y => x.hook < y.hook) → s.llp.queue.length < 16 →
          let h := c.val * 3072 + i
          let sense := if k.image.getLsbD i then Sense.stuckDown else Sense.stuckUp
          let mismatched := { s.evs.chains with echoMismatch := countAt s.evs.chains.echoMismatch c.val 1 }
          let counted : Evs := { s.evs with chains := mismatched }
          let stored := fun (count : Nat) (sent : Bool) (entries : Nat) =>
            let asks := sent = false ∧ 0 < s.hft.threshold ∧ s.hft.threshold ≤ count
            (asks → t.hft.find h = some { hook := h, kind := .learned true true, count := count, sense := some sense } ∧
              t.llp = { s.llp with queue := s.llp.queue ++ [.stopRequest .hookFault] }) ∧
            (¬ asks → t.hft.find h = some { hook := h, kind := .learned true sent, count := count, sense := some sense } ∧
              t.llp = s.llp) ∧
            (∀ g, g ≠ h → t.hft.find g = s.hft.find g) ∧ t.hft = { s.hft with entries := t.hft.entries } ∧
            t.hft.entries.length = entries
          t = { s with hcu := t.hcu, pcm := t.pcm, hft := t.hft, llp := t.llp, evs := t.evs } ∧
          (s.hft.find h = none → s.hft.substituted h = none → s.hft.entries.length < 128 →
            stored 1 false (s.hft.entries.length + 1) ∧
            t.evs = { counted with flags := s.evs.flags ||| EventFlag.bit .hookLearned, learned := some (h, sense) }) ∧
          (s.hft.find h = none → s.hft.substituted h = none → 128 ≤ s.hft.entries.length →
            t.hft = { s.hft with fullMisses := bump s.hft.fullMisses } ∧ t.llp = s.llp ∧
            t.evs = { counted with flags := s.evs.flags ||| EventFlag.bit .faultTableFull }) ∧
          (s.hft.find h = none → (s.hft.substituted h).isSome →
            t.hft = { s.hft with spareMismatch := bump s.hft.spareMismatch } ∧ t.llp = s.llp ∧ t.evs = counted) ∧
          (∀ e age sent, s.hft.find h = some e → e.kind = .learned age sent →
            stored (min (e.count + 1) 255) sent s.hft.entries.length ∧ t.evs = counted) ∧
          ∀ e a, s.hft.find h = some e → e.kind = .fixed a → t.hft = s.hft ∧ t.llp = s.llp ∧ t.evs = counted) ∧
    (∀ r, k.shift = some ⟨.representation, d, false⟩ → s.ph.representing = some r → same →
      (¬ last .representation →
        exec done s = .next { s with hcu.chains := tabSet s.hcu.chains c.val (finished .representation) }) ∧
      (last .representation → s.stu.weaving ≠ .running → s.pcm.staging = none → s.llp.queue.length < 16 →
        ∃ t, exec done s = .next t ∧ t.ph = { s.ph with representing := none } ∧
          t = { s with stu := t.stu, ph := t.ph, hcu := { s.hcu with chains := t.hcu.chains }, dlp := t.dlp, llp := t.llp, evs := t.evs } ∧
          t.chain c.val = { k with image := d, shift := none } ∧
          (∀ i, i < 4 → i ≠ c.val → Strobed (s.chain i) (t.chain i)) ∧
          (r.faulty = 0 → t.stu = s.stu ∧ t.dlp = s.dlp ∧ t.evs = s.evs ∧
            t.llp = { s.llp with queue := s.llp.queue ++ [.backDone r.g] }) ∧
          (r.faulty ≠ 0 → EndsInChainFault s t r.g r.faulty))) ∧
    ∀ pr p, k.shift = some ⟨.presentation, d, false⟩ → s.hcu.probing = some pr → pr.chain = c → s.ph.shed = some p →
      let found := (List.range hooks).countP fun i => sensed.getLsbD i != k.image.getLsbD i
      ∃ t, exec done s = .next t ∧ t = { s with hcu := t.hcu, hft := t.hft, dlp := t.dlp, llp := t.llp, evs := t.evs } ∧
        t.hcu.transferDue = s.hcu.transferDue ∧ (∀ i, i < 4 → i ≠ c.val → t.chain i = s.chain i) ∧
        (pr.presented = some p.g → t.chain c.val = { k with state := .active, image := d, shift := none } ∧ t.hcu.probing = none ∧
          t.dlp = { s.dlp with
            response := some { outcome := .accept, kind := 0x61#8, detail := .plain,
                               payload := u8 k.probe.code ++ u8 k.modules ++ [3, 1] ++ bytes32 p.g ++ u16 found }
            work := none }) ∧
        (pr.presented ≠ some p.g → same → t.dlp = s.dlp ∧
          t.chain c.val = { k with shift := some ⟨.presentation, s.driveShare (some c) p.lift c.val, false⟩ } ∧
          t.hcu.probing = some { chain := c, presented := some p.g, mismatches := 0 })

/-- A chain fails its marker check: it is ISOLATED with image 0 and counted, no comparison is made and no other chain's image changes but by a
strobe. In a transfer of the staging record, in RUNNING or completing in STOPPED, CHAIN_FAULT is raised and stopped on and the record is gone. In a
re-presentation the others go on, and the last to end it strobes those that completed and answers with the CHAIN_FAULT message. In a presentation
CHAIN_FAULT is raised and the probe is answered, without a stop. On a chain that shifts no drive values, and with an echo of another length, the event
does not occur (log 8). -/
def Obligations.ChainFailsMarkerCheck : Prop :=
  ∀ (s : State) (c : Fin 4) (d : Share) (values : List ChainValue) (final : ChainValue),
    let k := s.chain c.val
    let fails := FailedEcho (k.modules * 64) values final
    let done := Instr.chainShiftComplete c values final
    let last := ∀ i, i < 4 → i ≠ c.val → ∀ x, (s.chain i).shift = some x → x.work ≠ .representation ∨ x.done = true
    let isolated : Chain := { k with state := .isolated, image := 0, shift := none }
    let counted := { s.evs.chains with markerFault := countAt s.evs.chains.markerFault c.val 1 }
    (∀ x, k.shift = some ⟨.transfer, d, false⟩ → fails → s.pcm.staging = some x → s.stu.weaving ≠ .finding →
      s.llp.queue.length < 16 →
      ∃ t, exec done s = .next t ∧ t.chain c.val = isolated ∧
        (∀ i, i < 4 → i ≠ c.val → (t.chain i).image = (s.chain i).image ∧ (t.chain i).state = (s.chain i).state) ∧
        t.shifting .transfer = false ∧ t.stu.weaving = .stopped ∧ t.pcm = { s.pcm with staging := none } ∧
        t = { s with stu := t.stu, pq := t.pq, pcm := t.pcm, hcu := t.hcu, wsu := t.wsu, dlp := t.dlp, llp := t.llp, evs := t.evs } ∧
        t.flag .chainFault = true ∧ t.evs.chains = counted ∧
        t.evs.stops = { s.evs.stops with chainFault := bump s.evs.stops.chainFault } ∧
        t.stu.lastStop = some { cause := .chainFault, channel := none, mode := .immediate } ∧
        t.llp = { s.llp with queue := s.llp.queue ++ [.stopRequest .chainFault] } ∧
        (s.stu.weaving = .running → t.flag .stopped = true) ∧
        (s.stu.weaving = .stopped → t.flag .stopped = s.flag .stopped ∧ t.wsu = s.wsu ∧ t.dlp = s.dlp)) ∧
    (∀ r, k.shift = some ⟨.representation, d, false⟩ → fails → s.ph.representing = some r →
      let f := r.faulty ||| 1#4 <<< c.val
      (¬ last → exec done s = .next { s with
        hcu.chains := tabSet s.hcu.chains c.val isolated, evs.chains := counted, ph.representing := some { r with faulty := f } }) ∧
      (last → s.stu.weaving ≠ .running → s.pcm.staging = none → s.llp.queue.length < 16 →
        ∃ t, exec done s = .next t ∧ t.ph = { s.ph with representing := none } ∧ t.evs.chains = counted ∧
          t = { s with stu := t.stu, ph := t.ph, hcu := { s.hcu with chains := t.hcu.chains }, dlp := t.dlp, llp := t.llp, evs := t.evs } ∧
          t.chain c.val = isolated ∧ (∀ i, i < 4 → i ≠ c.val → Strobed (s.chain i) (t.chain i)) ∧ EndsInChainFault s t r.g f)) ∧
    (∀ pr, k.shift = some ⟨.presentation, d, false⟩ → fails → s.hcu.probing = some pr → pr.chain = c →
      exec done s = .next { s with
        hcu := { s.hcu with chains := tabSet s.hcu.chains c.val isolated, probing := none }
        evs := { s.evs with chains := counted, flags := s.evs.flags ||| EventFlag.bit .chainFault }
        dlp := { s.dlp with
          response := some { outcome := .accept, kind := 0x61#8, detail := .plain,
                             payload := u8 k.probe.code ++ u8 k.modules ++ [4] ++ uOpt 4 bytes32 pr.presented ++ u16 pr.mismatches }
          work := none } }) ∧
    ((∀ x, k.shift = some x → x.done = true ∨ x.work = .probe ∨ values.length ≠ k.modules * 64) → exec done s = .next s)

/-- CHAIN_CONFIG, CHAIN_PROBE and CHAIN_READ: the tests in order, the configured chain, the probe that holds BUSY, the chain read. A staging record
is discarded, or abandoned where it is in flight, and nothing else changes. The work a chain
shifts for is sent as an optional field, which is the model's choice (log 11). -/
def Obligations.ChainCommands : Prop :=
  ∀ (s : State) (chain modules divisor : Byte), s.dlp.work = none →
    let n := chain.toNat
    let first := n * 3072 + modules.toNat * 64
    let conflict := (∃ x ∈ s.pcm.sections.toList, ∃ h, x.covers h = true ∧ first ≤ h ∧ h < n * 3072 + 3072) ∨
      ∃ e ∈ s.hft.entries, ∃ h, e.spare = some h ∧ first ≤ h ∧ h < n * 3072 + 3072
    let config := Instr.chainConfig chain modules divisor
    let probe := Instr.chainProbe chain
    let fields := n < 4 ∧ modules.toNat ≤ 48 ∧ 1 ≤ divisor.toNat ∧ divisor.toNat ≤ 64
    let stopped := s.stu.weaving = .stopped
    let free := s.ph.representing = none
    let probable := (s.chain n).state = .unprobed ∨ (s.chain n).state = .isolated
    let configured : Chain :=
      { state := if modules = 0 then .disabled else .unprobed, modules := modules.toNat, divisor := divisor.toNat, image := 0,
        probe := .absent, shift := none }
    let probed : Chain :=
      { s.chain n with state := .probing, image := 0, shift := some { work := .probe, drive := 0, done := false } }
    ((¬ fields → Refuses config s .badField) ∧ (fields → ¬ stopped → Refuses config s .wrongState) ∧
      (fields → stopped → ¬ free → Refuses config s .busy) ∧ (fields → stopped → free → conflict → Refuses config s .conflict) ∧
      (fields → stopped → free → ¬ conflict →
        Accepts config s .plain
          (u8 (if modules = 0 then 0 else 1) ++ [modules, divisor] ++ u16 (s.pcm.sections.toList.map fun x => x.onChain n).sum)
          (State.discarded { s with hcu.chains := tabSet s.hcu.chains n configured }))) ∧
    ((4 ≤ n → Refuses probe s .badField) ∧ (n < 4 → ¬ stopped → Refuses probe s .wrongState) ∧
      (n < 4 → stopped → ¬ free → Refuses probe s .busy) ∧ (n < 4 → stopped → free → ¬ probable → Refuses probe s .wrongState) ∧
      (n < 4 → stopped → free → probable →
        Holds probe s .probe (State.discarded { s with
          hcu.chains := tabSet s.hcu.chains n probed
          hcu.probing := some { chain := Fin.ofNat 4 n, presented := none, mismatches := 0 } }))) ∧
    ((4 ≤ n → Refuses (.chainRead chain) s .badField) ∧
      (n < 4 → Accepts (.chainRead chain) s .plain
        (u8 (s.chain n).state.code ++ u8 (s.chain n).modules ++ u8 (s.chain n).divisor ++ u8 (s.chain n).probe.code ++
          u16 (s.chain n).raised ++
          uOpt 1 u8 (((s.chain n).shift.filter fun x => !x.done).map fun x => x.work.code) ++
          bytes32 (tabGet s.evs.chains.echoMismatch n 0) ++ bytes32 (tabGet s.evs.chains.markerFault n 0)) s))

/-- PROBE_COUNT_END: a count other than M isolates the chain, the count M with no shed makes it ACTIVE, both answering the probe; with a
shed the presentation begins on the chain alone. With none made, the mismatches in the answer are sent as 0, which is the model's choice (log 30). -/
def Obligations.ProbeCountEnds : Prop :=
  ∀ (s : State) (pr : Probe) (x : Shift) (marker : Option Nat), s.hcu.probing = some pr → (s.chain pr.chain.val).shift = some x →
    x.work = .probe → pr.presented = none → pr.mismatches = 0 →
    let n := pr.chain.val
    let c := s.chain n
    let answer := fun (result : Byte) (state : Byte) =>
      { s.dlp with response := some { outcome := .accept, kind := 0x61#8, detail := .plain,
                                      payload := [result] ++ u8 c.modules ++ [state] ++ [0, 0, 0, 0, 0] ++ [0, 0] },
                   work := none }
    (marker = some (c.modules * 64 + 1) → c.modules ≤ 48 → s.ph.shed = none →
      exec (.probeCountEnd marker) s = .next { s with
        hcu.chains := tabSet s.hcu.chains n { c with state := .active, probe := .modules c.modules, shift := none }
        hcu.probing := none, dlp := answer (BitVec.ofNat 8 c.modules) 3 }) ∧
    (∀ p, marker = some (c.modules * 64 + 1) → c.modules ≤ 48 → s.ph.shed = some p →
      ∃ t, exec (.probeCountEnd marker) s = .next t ∧ t.dlp = s.dlp ∧ (t.chain n).state = c.state ∧ (t.chain n).image = c.image ∧
        (t.chain n).probe = .modules c.modules ∧ ((t.chain n).shift.map fun y => (y.work, y.done)) = some (.presentation, false) ∧
        t.hcu.probing = some { chain := pr.chain, presented := some p.g, mismatches := 0 } ∧ t = { s with hcu := t.hcu } ∧
        ∀ i, i < 4 → i ≠ n → t.chain i = s.chain i) ∧
    ((marker = none ∨ ∃ at_, marker = some at_ ∧ (at_ = 0 ∨ (at_ - 1) % 64 ≠ 0 ∨ 48 < (at_ - 1) / 64)) →
      exec (.probeCountEnd marker) s = .next { s with
        hcu.chains := tabSet s.hcu.chains n { c with state := .isolated, image := 0, probe := .noCount, shift := none }
        hcu.probing := none, dlp := answer 0xFE#8 4 }) ∧
    ∀ m, m ≤ 48 → m ≠ c.modules → marker = some (m * 64 + 1) →
      exec (.probeCountEnd marker) s = .next { s with
        hcu.chains := tabSet s.hcu.chains n { c with state := .isolated, image := 0, probe := .modules m, shift := none }
        hcu.probing := none, dlp := answer (BitVec.ofNat 8 m) 4 }

/-- FAULT_PUT and FAULT_REMOVE: the tests in order; the STATIC entry with the count and sense of the entry it replaces, the entry removed; the
staging record as the invalidation list gives. The model's choices: replacing a STATIC entry keeps them too (log 19), a PARK takes any spare bytes
(log 5) and its spare bytes are sent as 0 (log 6), and the bytes of an entry and of the two answers (log 6). -/
def Obligations.FaultEntryCommands : Prop :=
  ∀ (s : State) (hook spare : BitVec 16) (action : Byte), s.dlp.work = none →
    let h := hook.toNat
    let put := Instr.faultPut hook action spare
    let a : FaultAction := if action = 0 then .park else .substitute spare.toNat
    let fields := h < 12288 ∧ (action = 0 ∨ action = 1 ∧ spare.toNat < 12288)
    let serves := fun x : Nat => ∃ e ∈ s.hft.entries, e.hook ≠ h ∧ e.spare = some x
    let spareBad := spare.toNat = h ∨ s.hookExists spare.toNat = false ∨
      (∃ x ∈ s.pcm.sections.toList, 0 < x.c ∧ x.covers spare.toNat = true) ∨ (∃ e ∈ s.hft.entries, e.hook = spare.toNat) ∨
      serves spare.toNat
    let conflict := serves h ∨ action = 1 ∧ spareBad
    let entry : FaultEntry :=
      { hook := h, kind := .fixed a, count := match s.hft.find h with | some e => e.count | none => 0,
        sense := match s.hft.find h with | some e => e.sense | none => none }
    let after := putEntry entry s.hft.entries
    (¬ fields → Refuses put s .badField) ∧ (fields → conflict → Refuses put s .conflict) ∧
    (fields → ¬ conflict → s.hft.find h = none → 128 ≤ s.hft.entries.length → Refuses put s .tableFull) ∧
    (fields → ¬ conflict → (s.hft.find h ≠ none ∨ s.hft.entries.length < 128) →
      ∃ t, Accepts put s .plain (entry.payload ++ u8 after.length) t ∧ Invalidated { s with hft.entries := after } t) ∧
    (12288 ≤ h → Refuses (.faultRemove hook) s .badField) ∧
    (h < 12288 → s.hft.find h = none → Refuses (.faultRemove hook) s .notFound) ∧
    ∀ e, h < 12288 → s.hft.find h = some e →
      let left := s.hft.entries.filter fun x => x.hook ≠ h
      ∃ t, Accepts (.faultRemove hook) s .plain (e.payload ++ u8 left.length) t ∧ Invalidated { s with hft.entries := left } t

/-- The other commands of the fault table and the aging pass: the walk, the period, the threshold, the counts and counters. The form of the
end of the table and of the counts is the model's reading (log 6), and so are the pass in every state, whatever the counter (log 8), and the two bytes of the aging counter (log 11). -/
def Obligations.FaultTableCommands : Prop :=
  ∀ s : State,
    (let aged : FaultEntry → Option FaultEntry := fun e => match e.kind with
       | .learned true b => some { e with kind := .learned false b }
       | .learned false _ => none
       | .fixed _ => some e
     exec .agingPass s = .next { s with hft.agingCounter := 0, hft.entries := s.hft.entries.filterMap aged }) ∧
    (s.dlp.work = none →
      let counts := u8 (s.hft.entries.countP (·.isLearned)) ++ u8 (s.hft.entries.countP fun e => !e.isLearned)
      (∀ e rest, s.hft.entries = e :: rest →
        Accepts .faultFirst s .plain ([1#8] ++ e.payload ++ counts) { s with hft.position := some e.hook }) ∧
      (s.hft.entries = [] → Accepts .faultFirst s .plain (List.replicate 13 0#8 ++ counts) s) ∧
      (s.hft.position = none → Refuses .faultNext s .notFound) ∧
      (∀ k e, s.hft.position = some k → (s.hft.entries.find? fun x => k < x.hook) = some e →
        Accepts .faultNext s .plain ([1#8] ++ e.payload ++ counts) { s with hft.position := some e.hook }) ∧
      (∀ k, s.hft.position = some k → (∀ e ∈ s.hft.entries, ¬ k < e.hook) →
        Accepts .faultNext s .plain (List.replicate 13 0#8 ++ counts) s) ∧
      (∀ period : BitVec 16, Accepts (.agingPeriod period) s (if period.toNat < 256 then .clamped else .plain)
        (u16 (max period.toNat 256)) { s with hft.agingPeriod := max period.toNat 256, hft.agingCounter := 0 }) ∧
      (∀ x : Byte, Accepts (.faultStop x) s .plain [x] { s with hft.threshold := x.toNat }) ∧
      let info := counts ++ u16 s.hft.agingPeriod ++ u16 s.hft.agingCounter ++ u8 s.hft.threshold ++
        u8 (s.hft.entries.countP fun e => match e.kind with | .learned _ sent => sent | .fixed _ => false) ++
        bytes32 s.hft.fullMisses ++ bytes32 s.hft.spareMismatch
      Accepts (.faultInfo 0) s .plain info s ∧
      Accepts (.faultInfo 1) s .plain info { s with hft.fullMisses := 0, hft.spareMismatch := 0 } ∧
      ∀ x : Byte, 2 ≤ x.toNat → Refuses (.faultInfo x) s .badField)

/-! ### The program queue -/

/-- STEP_APPEND: the tests in order; a seq is passed over while a record carries it; into a full queue the oldest record, when it is CLOSED, is
freed first and the ring is trimmed of it. An absent tag takes any value bytes, which is the model's choice (log 5). -/
def Obligations.StepAppend : Prop :=
  ∀ (s : State) (design vmode p weftSeq stop : Byte) (first last n : BitVec 16) (tag : OptField 16), s.dlp.work = none →
    let c := Instr.stepAppend design first last vmode n p weftSeq tag stop
    let fields := design.toNat < 16 ∧ vmode.toNat ≤ 1 ∧ 1 ≤ n.toNat ∧ n.toNat ≤ 4095 ∧ 1 ≤ p.toNat ∧ p.toNat ≤ 4 ∧ weftSeq.toNat < 16 ∧
      tag.present.toNat ≤ 1 ∧ stop.toNat ≤ 1
    (¬ fields → Refuses c s .badField) ∧ (fields → s.design? design.toNat = none → Refuses c s .notFound) ∧
    ∀ d, fields → s.design? design.toNat = some d →
      let range := first.toNat ≤ last.toNat ∧ last.toNat < d.h
      let record : BitVec 16 → StepRec := fun seq =>
        { seq := seq, design := design.toNat, rowFirst := first.toNat, rowLast := last.toNat,
          vmode := if vmode = 0 then .straight else .point, n := n.toNat, p := p.toNat, weftSeq := weftSeq.toNat,
          tag := if tag.present = 1 then some tag.value else none, stopAtEnd := decide (stop = 1), rowBase := none, state := .waiting }
      let passed := fun (q : List StepRec) (k : Nat) =>
        (∀ j, j < k → ∃ x ∈ q, x.seq = s.pq.counter + BitVec.ofNat 16 j) ∧ ∀ x ∈ q, x.seq ≠ s.pq.counter + BitVec.ofNat 16 k
      let joins := fun (q : List StepRec) (k : Nat) =>
        let seq := s.pq.counter + BitVec.ofNat 16 k
        { s.pq with steps := q ++ [record seq], counter := seq + 1 }
      let answer := fun (q : List StepRec) (k : Nat) => bytes16 (s.pq.counter + BitVec.ofNat 16 k) ++ u8 (q.length + 1)
      (¬ range → Refuses c s .badField) ∧
      (range → 32 ≤ s.pq.steps.length → (∀ x, s.pq.steps.head? = some x → x.state ≠ .closed) → Refuses c s .queueFull) ∧
      (range → s.pq.steps.length < 32 → ∀ k, k < 32 → passed s.pq.steps k →
        Accepts c s .plain (answer s.pq.steps k) { s with pq := joins s.pq.steps k }) ∧
      ∀ x rest k, range → s.pq.steps = x :: rest → rest.length = 31 → x.state = .closed → (∀ y ∈ rest, y.seq ≠ x.seq) →
        k < 32 → passed rest k →
        Accepts c s .plain (answer rest k)
          { s with pq := joins rest k, ph := { s.ph with ring := s.ph.ring.dropWhile fun p => p.seq = x.seq, origin := false } }

/-- STEP_CUT removes a PENDING record and all that follow it, and the staging record meets the invalidation list; QUEUE_READ reads a record with its derived quantities
and the counts; QUEUE_WATERMARK clamps at 31. -/
def Obligations.QueueCommands : Prop :=
  ∀ s : State, s.dlp.work = none →
    (∀ seq, (∀ x ∈ s.pq.steps, x.seq ≠ seq) → Refuses (.stepCut seq) s .notFound) ∧
    (∀ before r after, s.pq.steps = before ++ r :: after → (∀ x ∈ before, x.seq ≠ r.seq) →
      (r.state ≠ .waiting → Refuses (.stepCut r.seq) s .locked) ∧
      (r.state = .waiting →
        ∃ t, Accepts (.stepCut r.seq) s .plain (u8 (after.length + 1) ++ u8 before.length) t ∧
          Invalidated { s with pq.steps := before } t)) ∧
    (∀ index : Byte, 31 < index.toNat → Refuses (.queueRead index) s .badField) ∧
    (∀ index : Byte, index.toNat ≤ 31 → s.pq.steps.length ≤ index.toNat → Refuses (.queueRead index) s .notFound) ∧
    (∀ (index : Byte) (r : StepRec), index.toNat ≤ 31 → s.pq.steps[index.toNat]? = some r →
      let l := r.rowLast + 1 - r.rowFirst
      let period := match r.vmode with | .straight => l | .point => max 1 (2 * l - 2)
      let count := fun x : StepState => u8 (s.pq.steps.countP fun r => r.state = x)
      Accepts (.queueRead index) s .plain
        (bytes16 r.seq ++ u8 r.design ++ u16 r.rowFirst ++ u16 r.rowLast ++ u8 r.vmode.code ++ u16 r.n ++ u8 r.p ++ u8 r.weftSeq ++
          uOpt 2 bytes16 r.tag ++ uFlag r.stopAtEnd ++ uOpt 4 bytes32 r.rowBase ++ u8 r.state.code ++ u16 l ++ u16 period ++
          u32 (r.n * period * r.p) ++ u8 s.pq.steps.length ++ (count .waiting ++ count .opened ++ count .closed)) s) ∧
    ∀ value : Byte, Accepts (.queueWatermark value) s (if 31 < value.toNat then .clamped else .plain) []
      { s with pq.watermark := min value.toNat 31 }

/-! ### The pattern store -/

/-- DESIGN_DEFINE: the tests in order, first fit, the record, an empty colour map, BUSY held by the clearing; DEFINE_CLEAR_DONE: every cell of
the design reads 0, every other cell as before, and the response stands. With no clearing in progress the event changes nothing (log 8). -/
def Obligations.DesignDefine : Prop :=
  ∀ (s : State) (id live : Byte) (w h : BitVec 16), DirectorySound s →
    let n := id.toNat
    let c := Instr.designDefine id w h live
    let fields := n < 16 ∧ 1 ≤ w.toNat ∧ w.toNat ≤ 6144 ∧ 1 ≤ h.toNat ∧ h.toNat ≤ 16384 ∧ live.toNat ≤ 1
    let perRow := (w.toNat + 511) / 512
    let need := h.toNat * perRow
    let used := fun b : Nat => ∃ i d, s.design? i = some d ∧ d.base ≤ b ∧ b < d.base + d.h * ((d.w + 511) / 512)
    let fits := fun base : Nat => base + need ≤ 65536 ∧ ∀ b, base ≤ b → b < base + need → ¬ used b
    (s.dlp.work = none →
      (¬ fields → Refuses c s .badField) ∧ (fields → (s.design? n).isSome → Refuses c s .alreadyExists) ∧
      (fields → s.design? n = none → (∀ base, ¬ fits base) → Refuses c s .noSpace) ∧
      ∀ base, fields → s.design? n = none → fits base → (∀ b, b < base → ¬ fits b) →
        let record : Design := { w := w.toNat, h := h.toNat, base := base, liveEdit := decide (live = 1) }
        Holds c s (.define n) { s with ps.directory := tabSet s.ps.directory n (some record), wct.maps := tabSet s.wct.maps n .empty }) ∧
    ((∀ i, s.dlp.work ≠ some (.define i)) → exec .defineClearDone s = .next s) ∧
    ∀ i d, s.dlp.work = some (.define i) → s.design? i = some d →
      ∃ t, exec .defineClearDone s = .next t ∧ t = { s with ps := { s.ps with cells := t.ps.cells }, dlp := t.dlp } ∧
        t.dlp = { s.dlp with
          response := some { outcome := .accept, kind := 0x30#8, detail := .plain,
                             payload := u16 d.base ++ u8 d.blocksPerRow ++ u32 d.blocks ++ u32 (freeTotal s.ps.directory) ++
                               u32 (longestRun (freeRuns s.ps.directory)).2 }
          work := none } ∧
        ∀ a, readCell t.ps.cells a = if d.base * 512 ≤ a ∧ a < (d.base + d.h * d.blocksPerRow) * 512 then 0 else readCell s.ps.cells a

/-- DESIGN_DELETE and DESIGN_INFO; the free runs are the maximal runs of blocks no design holds, in increasing block number, and STORE_FREE
returns their total, the longest and its first block, and the number of designs. -/
def Obligations.DesignRecordsAndFreeSpace : Prop :=
  ∀ (s : State) (id : Byte), DirectorySound s →
    let n := id.toNat
    let runs := freeRuns s.ps.directory
    let used := fun b : Nat => ∃ i d, s.design? i = some d ∧ d.base ≤ b ∧ b < d.base + d.h * ((d.w + 511) / 512)
    let named := ∃ r ∈ s.pq.steps, r.design = n
    let directory := tabSet s.ps.directory n none
    let count := fun x : StepState => u8 (s.pq.steps.countP fun r => decide (r.design = n) && decide (r.state = x))
    (∀ b, b < 65536 → (¬ used b ↔ ∃ r ∈ runs, r.1 ≤ b ∧ b < r.1 + r.2)) ∧
    runs.Pairwise (fun x y => x.1 + x.2 < y.1) ∧ (∀ r ∈ runs, 0 < r.2 ∧ r.1 + r.2 ≤ 65536) ∧
    (s.dlp.work = none →
      ((16 ≤ n → Refuses (.designDelete id) s .badField) ∧
        (n < 16 → s.design? n = none → Refuses (.designDelete id) s .notFound) ∧
        (n < 16 → (s.design? n).isSome → named → Refuses (.designDelete id) s .inUse) ∧
        (n < 16 → (s.design? n).isSome → ¬ named →
          Accepts (.designDelete id) s .plain (u32 (freeTotal directory) ++ u32 (longestRun (freeRuns directory)).2)
            { s with ps := { s.ps with directory := directory, window := s.ps.window.filter fun w => w.design ≠ n } })) ∧
      ((16 ≤ n → Refuses (.designInfo id) s .badField) ∧ (n < 16 → s.design? n = none → Refuses (.designInfo id) s .notFound) ∧
        ∀ d, n < 16 → s.design? n = some d →
          Accepts (.designInfo id) s .plain
            (u16 d.w ++ u16 d.h ++ u16 d.base ++ u8 ((d.w + 511) / 512) ++ uFlag d.liveEdit ++
              uFlag (s.pq.steps.any fun r => r.design = n ∧ (r.state = .opened ∨ r.state = .closed)) ++
              (count .waiting ++ count .opened ++ count .closed)) s) ∧
      ∃ longest first, (∀ r ∈ runs, r.2 ≤ longest) ∧ (runs = [] → longest = 0 ∧ first = 0) ∧
        (runs ≠ [] → (first, longest) ∈ runs ∧ ∀ r ∈ runs, r.2 = longest → first ≤ r.1) ∧
        Accepts .storeFree s .plain
          (u32 (runs.map (·.2)).sum ++ u32 longest ++ u16 first ++ u8 (s.ps.directory.toList.countP (·.isSome))) s)

/-- DESIGN_WINDOW: the tests in order, the window with its cursor at the start corner; and where the cursor stands after k advances from
there: its faster place k modulo its range, its slower one k divided by it, each in its own direction. The start corner is sent as row and then
column (log 11), and a wrong code is refused before a missing record (log 25), which are the model's choices. -/
def Obligations.WindowAndCursor : Prop :=
  ∀ (s : State) (id order colDir rowDir : Byte) (col0 col1 row0 row1 : BitVec 16), s.dlp.work = none →
    let c := Instr.designWindow id col0 col1 row0 row1 order colDir rowDir
    let codes := id.toNat < 16 ∧ order.toNat ≤ 1 ∧ colDir.toNat ≤ 1 ∧ rowDir.toNat ≤ 1
    (¬ codes → Refuses c s .badField) ∧ (codes → s.design? id.toNat = none → Refuses c s .notFound) ∧
    ∀ d, codes → s.design? id.toNat = some d →
      let ranges := col0.toNat ≤ col1.toNat ∧ col1.toNat < d.w ∧ row0.toNat ≤ row1.toNat ∧ row1.toNat < d.h
      let width := col1.toNat - col0.toNat + 1
      let height := row1.toNat - row0.toNat + 1
      let place := fun (dir : Byte) (low high k : Nat) => if dir = 0 then low + k else high - k
      (¬ ranges → Refuses c s .badField) ∧
      (ranges → ∃ w : Window,
        w = { design := id.toNat, col0 := col0.toNat, col1 := col1.toNat, row0 := row0.toNat, row1 := row1.toNat,
              order := if order = 0 then .rowFirst else .columnFirst, colDir := if colDir = 0 then .up else .down,
              rowDir := if rowDir = 0 then .up else .down, row := if rowDir = 0 then row0.toNat else row1.toNat,
              col := if colDir = 0 then col0.toNat else col1.toNat } ∧
        Accepts c s .plain (u32 (width * height) ++ u16 w.row ++ u16 w.col) { s with ps.window := some w } ∧
        ∀ k, let x := Nat.repeat Window.advance k w
          x = { w with row := x.row, col := x.col } ∧
          (order = 0 → x.col = place colDir col0.toNat col1.toNat (k % width) ∧
            x.row = place rowDir row0.toNat row1.toNat (k / width % height)) ∧
          (order = 1 → x.row = place rowDir row0.toNat row1.toNat (k % height) ∧
            x.col = place colDir col0.toNat col1.toNat (k / height % width)))

/-- CELLS and CELLS_MORE: the tests in order; the cells in cursor order take the colours of the payload, no other cell changes, and the response
carries the count and the cursor. A live edit of the staging step's design reaches the staging record: a composition in flight has read rows as they
stood before, as many as is free (log 3), and a later record meets the invalidation list; one of another design stands. -/
def Obligations.CellWrites : Prop :=
  ∀ (s : State) (fromStart : Bool) (count : BitVec 16) (packed : List Byte), s.dlp.work = none → CellsCanonical s →
    let c := if fromStart then Instr.cells count packed else Instr.cellsMore count packed
    let n := count.toNat
    let sized := packed.length = (n + 1) / 2
    let counted := 1 ≤ n ∧ n ≤ 2048
    let locked := fun id : Nat => ∃ r ∈ s.pq.steps, r.design = id ∧ (r.state = .opened ∨ r.state = .closed)
    (¬ sized → Refuses c s .badField) ∧ (sized → s.ps.window = none → Refuses c s .notFound) ∧
    ∀ (w : Window) (d : Design), sized → s.ps.window = some w → s.design? w.design = some d →
      let barred := locked w.design ∧ d.liveEdit = false
      let start := if fromStart then { w with row := w.startRow, col := w.startCol } else w
      let visit := fun k => Nat.repeat Window.advance k start
      let address := fun k => (d.base + (visit k).row * ((d.w + 511) / 512) + (visit k).col / 512) * 512 + (visit k).col % 512
      let colour := fun k => if k % 2 = 0 then (packed.getD (k / 2) 0).extractLsb' 4 4 else (packed.getD (k / 2) 0).extractLsb' 0 4
      (¬ counted → Refuses c s .badField) ∧ (counted → barred → Refuses c s .locked) ∧
      (counted → ¬ barred → ∃ (cells : CellMem) (t : State),
        Accepts c s .plain (bytes16 count ++ u16 (visit n).row ++ u16 (visit n).col) t ∧
        LiveEdited s { s with ps := { s.ps with cells := cells, window := some (visit n) } } t w.design ∧
        cells.wf = true ∧ (∀ a, (∀ k, k < n → address k ≠ a) → readCell cells a = readCell s.ps.cells a) ∧
        ∀ k, k < n → (∀ j, k < j → j < n → address j ≠ address k) → readCell cells (address k) = colour k)

/-- CELLS_READ and READ_MORE: the tests in order, the cells in cursor order, the cursor. DESIGN_SUM holds BUSY and SUM_DONE answers it with
(W + H + the colours of all cells) modulo 65,536. The window is tested before the count, which is the model's choice (log 25). With no summing in
progress the event changes nothing (log 8). -/
def Obligations.CellReadsAndSum : Prop :=
  ∀ s : State,
    (∀ (fromStart : Bool) (count : BitVec 16), s.dlp.work = none →
      let c := if fromStart then Instr.cellsRead count else Instr.readMore count
      let n := count.toNat
      let counted := 1 ≤ n ∧ n ≤ 2048
      (s.ps.window = none → Refuses c s .notFound) ∧
      ∀ (w : Window) (d : Design), s.ps.window = some w → s.design? w.design = some d →
        let start := if fromStart then { w with row := w.startRow, col := w.startCol } else w
        let visit := fun k => Nat.repeat Window.advance k start
        let address := fun k => (d.base + (visit k).row * ((d.w + 511) / 512) + (visit k).col / 512) * 512 + (visit k).col % 512
        (¬ counted → Refuses c s .badField) ∧
        (counted → Accepts c s .plain
          (bytes16 count ++ packCells ((List.range n).map fun k => readCell s.ps.cells (address k)) ++
            (u16 (visit n).row ++ u16 (visit n).col)) { s with ps.window := some (visit n) })) ∧
    (∀ id : Byte, s.dlp.work = none →
      (16 ≤ id.toNat → Refuses (.designSum id) s .badField) ∧
      (id.toNat < 16 → s.design? id.toNat = none → Refuses (.designSum id) s .notFound) ∧
      (id.toNat < 16 → (s.design? id.toNat).isSome → Holds (.designSum id) s (.sum id.toNat) s)) ∧
    ((∀ i, s.dlp.work ≠ some (.sum i)) → exec .sumDone s = .next s) ∧
    ∀ i d, s.dlp.work = some (.sum i) → s.design? i = some d → 1 ≤ d.w → CellsCanonical s →
      let cells := (List.range d.h).flatMap fun r => (List.range d.w).map fun c => (readCell s.ps.cells (d.cellAddr r c)).toNat
      exec .sumDone s = .next { s with dlp := { s.dlp with
        response := some { outcome := .accept, kind := 0x38#8, detail := .plain,
                           payload := u16 ((d.w + d.h + cells.sum) % 65536) ++ u16 d.w ++ u16 d.h }
        work := none } }

/-! ### Weaves, colour maps, sections, limits -/

/-- WEAVE_WRITE and WEAVE_READ: when a weave is in use, by a locked design, by a FIXED section, by what a composition in flight has read; the tests;
the columns at ww and above cleared; the read. COLORMAP_WRITE and COLORMAP_READ: the tests in order, the four slots of one colour, the read with the
sizes of the weaves named. The staging record after a weave is written is as the invalidation list gives; after a map is written, as a live edit of
its design gives. The model's choices: an absent slot takes any other bytes (log 5), the sizes follow for the slots present
alone (log 11), and the order of COLORMAP_READ's refusals (log 25). -/
def Obligations.WeaveAndColourMapCommands : Prop :=
  (∀ (s : State) (id ww wh : Byte) (rows : List (BitVec 32)), s.dlp.work = none →
     let n := id.toNat
     let c := Instr.weaveWrite id ww wh rows
     let fields := n < 32 ∧ 1 ≤ ww.toNat ∧ ww.toNat ≤ 32 ∧ 1 ≤ wh.toNat ∧ wh.toNat ≤ 32 ∧ rows.length = wh.toNat
     let composing := ∃ p r, s.pcm.staging = some ⟨p, .composing r⟩
     let inUse := (∃ d, d < 16 ∧ s.locked d = true ∧ ∃ colour k x, colour < 16 ∧ tabGet (s.slots d colour) k none = some x ∧ x.weave = n) ∨
       ((s.stu.weaving ≠ .stopped ∨ composing) ∧ ∃ x ∈ s.pcm.sections.toList, 0 < x.c ∧ x.mode = .fixed ∧ x.weave = n) ∨
       ∃ p slots read x, s.pcm.staging = some ⟨p, .composing ⟨some slots, read⟩⟩ ∧ some x ∈ slots ∧ x.weave = n
     (s.weaveInUse n = true ↔ inUse) ∧
     (¬ fields → Refuses c s .badField) ∧ (fields → inUse → Refuses c s .inUse) ∧
     (fields → ¬ inUse → ∃ (kept : List (BitVec 32)) (t : State),
       let weaves := tabSet s.wct.weaves n { ww := ww.toNat, wh := wh.toNat, rows := kept }
       Accepts c s .plain ([id, ww, wh] ++ u16 (s.slotsNaming n)) t ∧ t.wct = { s.wct with weaves := weaves } ∧
       Invalidated { s with wct.weaves := weaves } t ∧
       kept.length = wh.toNat ∧
       ∀ y x : Nat, x < 32 → (kept.getD y 0).getLsbD (31 - x) = (decide (x < ww.toNat) && (rows.getD y 0).getLsbD (31 - x))) ∧
     (32 ≤ n → Refuses (.weaveRead id) s .badField) ∧
     (n < 32 → Accepts (.weaveRead id) s .plain
       (u8 (s.weave n).ww ++ u8 (s.weave n).wh ++ (s.weave n).rows.flatMap bytes32 ++ uFlag (s.weaveInUse n) ++ u8 (s.lockedNaming n) ++
         u8 (s.fixedNaming n)) s)) ∧
  ∀ (s : State) (design colour : Byte) (raw : Vector RawSlot 4), s.dlp.work = none →
    let n := design.toNat
    let write := Instr.colormapWrite design colour raw
    let read := Instr.colormapRead design colour
    let codes := n < 16 ∧ colour.toNat < 16
    let fields := codes ∧ ∀ r ∈ raw.toList,
      r.present = 0 ∨ r.present = 1 ∧ r.weave.toNat < 32 ∧ r.xs.toNat < 32 ∧ r.ys.toNat < 32 ∧ r.invert.toNat ≤ 1
    let barred := (∃ r ∈ s.pq.steps, r.design = n ∧ (r.state = .opened ∨ r.state = .closed)) ∧
      ∃ d, s.design? n = some d ∧ d.liveEdit = false
    let slot : RawSlot → Option Slot := fun r =>
      if r.present = 1 then some { weave := r.weave.toNat, xs := r.xs.toNat, ys := r.ys.toNat, invert := decide (r.invert = 1) } else none
    let bytes : Option Slot → List Byte := fun o => match o with
      | some x => [1#8] ++ u8 x.weave ++ u8 x.xs ++ u8 x.ys ++ uFlag x.invert
      | none => [0, 0, 0, 0, 0]
    let after := { s with wct.maps := tabSet s.wct.maps n (tabSet (s.map n) colour.toNat (raw.map slot)) }
    let here := (s.slots n colour.toNat).toList
    (¬ fields → Refuses write s .badField) ∧ (fields → s.design? n = none → Refuses write s .notFound) ∧
    (fields → (s.design? n).isSome → barred → Refuses write s .locked) ∧
    (fields → (s.design? n).isSome → ¬ barred → ∃ (t : State) (used : Nat),
      Accepts write s .plain ((raw.toList.flatMap fun r => bytes (slot r)) ++ u8 used) t ∧ t.wct = after.wct ∧
      LiveEdited s after t n ∧ (∀ p r, s.pcm.staging = some ⟨p, .composing r⟩ → used = t.weavesInUse) ∧
      ((∀ p r, s.pcm.staging ≠ some ⟨p, .composing r⟩) → used = after.weavesInUse)) ∧
    (¬ codes → Refuses read s .badField) ∧ (codes → s.design? n = none → Refuses read s .notFound) ∧
    (codes → (s.design? n).isSome →
      Accepts read s .plain (here.flatMap bytes ++
        here.flatMap fun o => match o with | some x => u8 (s.weave x.weave).ww ++ u8 (s.weave x.weave).wh | none => []) s)

/-- SECTION_WRITE and SECTION_READ: the tests in order, the section with its weft float limit clamped and a staging record discarded or
abandoned, the read with the hooks on ACTIVE chains. Both answer with the seven fields and not the index, which is the model's choice (log 11). -/
def Obligations.SectionCommands : Prop :=
  ∀ (s : State) (index mode hmode weave lw : Byte) (f c o : BitVec 16), s.dlp.work = none →
    let n := index.toNat
    let write := Instr.sectionWrite index f c mode hmode o weave lw
    let fields := n < 8 ∧ f.toNat < 12288 ∧ f.toNat + c.toNat ≤ 12288 ∧ mode.toNat ≤ 2 ∧ hmode.toNat ≤ 1 ∧ o.toNat < 6144 ∧ weave.toNat < 32
    let covers := fun h : Nat => f.toNat ≤ h ∧ h < f.toNat + c.toNat
    let conflict := ∃ h, covers h ∧ ((∃ i, i < 8 ∧ i ≠ n ∧ (s.section i).covers h = true) ∨ s.hookExists h = false ∨
      ∃ e ∈ s.hft.entries, e.spare = some h)
    let limit := if mode = 2 then 0 else if lw.toNat = 1 then 2 else min lw.toNat 64
    let x : Section :=
      { f := f.toNat, c := c.toNat, mode := if mode = 0 then .design else if mode = 1 then .fixed else .parked,
        hmode := if hmode = 0 then .straight else .point, o := o.toNat, weave := weave.toNat, lw := limit }
    let after : State := { s with pcm.sections := tabSet s.pcm.sections n x }
    let bytes := fun x : Section =>
      u16 x.f ++ u16 x.c ++ u8 x.mode.code ++ u8 x.hmode.code ++ u16 x.o ++ u8 x.weave ++ u8 x.lw
    let covered := (after.pcm.sections.toList.map (·.c)).sum
    (s.stu.weaving ≠ .stopped → Refuses write s .wrongState) ∧ (s.stu.weaving = .stopped → ¬ fields → Refuses write s .badField) ∧
    (s.stu.weaving = .stopped → fields → conflict → Refuses write s .conflict) ∧
    (s.stu.weaving = .stopped → fields → ¬ conflict →
      Accepts write s (if limit = lw.toNat then .plain else .clamped) (bytes x ++ u16 covered ++ u16 (12288 - covered)) after.discarded) ∧
    (8 ≤ n → Refuses (.sectionRead index) s .badField) ∧
    (n < 8 → Accepts (.sectionRead index) s .plain
      (bytes (s.section n) ++ u16 ((List.range 12288).countP fun h =>
        (s.section n).covers h && decide ((s.chain (h / 3072)).state = .active))) s)

/-- FLOAT_LIMITS clamps, stores, rebuilds every run counter from the shed and the history, and discards or abandons a staging record; RUN_COUNTERS_READ and
HISTORY_READ: their tests and their responses. The re-presentation as an optional field, the counters without a count field before them, and
the unused low bits of the last lift byte sent as 0 are the model's choices (log 11), and so is the order of HISTORY_READ's refusals (log 25). -/
def Obligations.LimitsAndRecords : Prop :=
  ∀ s : State, s.dlp.work = none →
    (∀ limit : Byte,
      let l := if limit.toNat = 1 then 2 else min limit.toNat 32
      let runs := rebuiltRuns s.ph l
      (s.stu.weaving ≠ .stopped → Refuses (.floatLimits limit) s .wrongState) ∧
      (s.stu.weaving = .stopped →
        Accepts (.floatLimits limit) s (if l = limit.toNat then .plain else .clamped)
          (u8 l ++ u16 (if l = 0 then 0 else runs.countP fun r => r.2 = l) ++ u16 (runs.countP fun r => 0 < r.2))
          (State.discarded { s with flm := { lwarp := l, runs := runs } })) ∧
      ∀ h, h < 12288 →
        (s.ph.shed = none → runOf runs h = 0) ∧
        ∀ p, s.ph.shed = some p → runOf runs h = rebuiltRun (p :: s.ph.ring.reverse) s.ph.origin l h) ∧
    (∀ first count : BitVec 16,
      let inside := 1 ≤ count.toNat ∧ count.toNat ≤ 512 ∧ first.toNat + count.toNat ≤ 12288
      (¬ inside → Refuses (.runCountersRead first count) s .badField) ∧
      (inside → Accepts (.runCountersRead first count) s .plain
        ((List.range count.toNat).flatMap (fun i => u8 (runOf s.flm.runs (first.toNat + i))) ++ u8 s.flm.lwarp ++
          uFlag s.ph.shed.isSome ++ uFlag (s.pcm.staging.any fun st => st.phase.runs?.isSome)) s)) ∧
    ∀ (age : Byte) (first count : BitVec 16),
      let c := Instr.historyRead age first count
      let inside := age.toNat ≤ 96 ∧ first.toNat < 12288 ∧ count.toNat ≤ 4096 ∧ first.toNat + count.toNat ≤ 12288
      let record := if age = 0 then s.ph.shed else s.ph.ring.reverse[age.toNat - 1]?
      let reach := if s.ph.origin then s.ph.ring.length else s.ph.ring.length - 32
      (¬ inside → Refuses c s .badField) ∧ (inside → record = none → Refuses c s .notFound) ∧
      ∀ p, inside → record = some p → ∃ lift : List Byte, lift.length = (count.toNat + 7) / 8 ∧
        (∀ i, i < 8 * lift.length →
          (lift.getD (i / 8) 0).getLsbD (7 - i % 8) = (decide (i < count.toNat) && p.lift.getLsbD (first.toNat + i))) ∧
        Accepts c s .plain
          (u8 s.ph.ring.length ++ uFlag s.ph.origin ++ u8 reach ++ uFlag s.ph.shed.isSome ++
            uOpt 4 (fun (x : Representation) => bytes32 x.g) s.ph.representing ++
            (bytes32 p.g ++ bytes16 p.seq ++ u32 p.t ++ u16 p.row ++ u8 p.k ++ u8 p.weft ++ uOpt 1 u8 p.channel ++ u16 p.forcedDown ++
              u16 p.forcedUp ++ u16 p.unresolved) ++ lift) s

/-! ### The weft tables, status, events, statistics, soft reset -/

/-- WEFT_SEQ_WRITE, WEFT_MAP_WRITE and WEFT_READ: the tests, the sequence, the map entry with its exhausted field clear, the read. The model's
choices: an absent alternate takes any value byte (log 5), and the forms of the alternate's status, of the sequence and of the finger's channel
in the answers (log 11). -/
def Obligations.WeftCommands : Prop :=
  ∀ s : State, s.dlp.work = none →
    let status := fun c : Nat => u8 (if s.wsu.isReady c then 0 else 1)
    (∀ (id length : Byte) (entries : List Byte),
      let fields := id.toNat < 16 ∧ 1 ≤ length.toNat ∧ length.toNat ≤ 8 ∧ entries.length = length.toNat ∧ ∀ b ∈ entries, b.toNat < 8
      (¬ fields → Refuses (.weftSeqWrite id length entries) s .badField) ∧
      (fields → Accepts (.weftSeqWrite id length entries) s .plain (length :: entries)
        { s with wsu.sequences := tabSet s.wsu.sequences id.toNat (entries.map (·.toNat)) })) ∧
    (∀ (logical primary selection : Byte) (alternate : OptField 8),
      let c := Instr.weftMapWrite logical primary alternate selection
      let present := alternate.present = 1
      let other := alternate.value.toNat
      let fields := logical.toNat < 8 ∧ primary.toNat < 8 ∧ alternate.present.toNat ≤ 1 ∧ selection.toNat ≤ 1 ∧
        (present → other < 8 ∧ other ≠ primary.toNat) ∧ (selection = 1 → present)
      (¬ fields → Refuses c s .badField) ∧
      (fields → Accepts c s .plain
        ([primary] ++ (if present then [1#8, alternate.value] else [0, 0]) ++ [selection, 0] ++ status primary.toNat ++
          (if present then [1#8] ++ status other else [0, 0]))
        { s with wsu.map := tabSet s.wsu.map logical.toNat
                   { primary := primary.toNat, alternate := if present then some other else none,
                     selection := if selection = 1 then .alternate else .primary, exhausted := false } })) ∧
    ∀ id : Byte, (16 ≤ id.toNat → Refuses (.weftRead id) s .badField) ∧
      (id.toNat < 16 →
        let sequence := tabGet s.wsu.sequences id.toNat []
        Accepts (.weftRead id) s .plain
          ((u8 sequence.length ++ sequence.flatMap u8) ++
            (s.wsu.map.toList.flatMap fun e => u8 e.primary ++ uOpt 1 u8 e.alternate ++ u8 e.selection.code ++ uFlag e.exhausted) ++
            (List.range 8).flatMap status ++
            (match s.wsu.finger with | .off => [0, 0, 0] | .engaged c => [1#8, 1#8] ++ u8 c | .waiting c _ => [2#8, 1#8] ++ u8 c) ++
            uOpt 4 bytes32 s.wsu.servedG ++ uOpt 2 (fun (x : Release) => u8 x.dead ++ u8 x.count) s.wsu.release) s)

/-- STATUS_READ, the event commands and the statistics commands: tests, effects and responses. EVENTS_CLEAR clears the flags of its mask and no
other; the answers carry the 15 flags as one byte each, 1 or 0, in R188's order, and the mask as two bytes. The forms of the sync flags and of
the optional fields in the answers are the model's (logs 7, 11). -/
def Obligations.StatusEventsAndStatistics : Prop :=
  ∀ s : State, s.dlp.work = none →
    let brief := fun p : Pick => bytes32 p.g ++ bytes16 p.seq ++ u32 p.t
    let counters := fun l : List Counter => l.flatMap bytes32
    let flagBytes := fun flags : BitVec 15 => (List.range 15).map fun i => if flags.getLsbD i then 1#8 else 0#8
    let read := fun (group : Byte) (payload : List Byte) => Accepts (.statsRead group) s .plain payload s
    let clear := fun (group : Byte) (x : Evs) => Accepts (.statsClear group) s .plain [] { s with evs := x }
    Accepts .statusRead s .plain
      (u8 s.stu.weaving.code ++ u16 s.stu.position.val ++ uFlag s.stu.indexSeen ++ uOpt 10 brief s.ph.shed ++ uFlag s.pcm.programEnd ++
        u8 (stagingCode s.pcm.staging) ++ uOpt 10 (fun (x : Staging) => brief x.pick) s.pcm.staging ++
        uOpt 4 (fun (x : Representation) => bytes32 x.g) s.ph.representing ++
        s.hcu.chains.toList.flatMap (fun (c : Chain) => u8 c.state.code) ++ s.wsu.finger.payload ++ uOpt 4 bytes32 s.wsu.servedG ++
        releasePayload s.wsu.release ++ uFlag s.stu.wait.isSome ++ (uFlag s.stu.sync0 ++ uFlag s.stu.sync1) ++
        uOpt 4 (fun (r : LastStop) => u8 r.cause.code ++ uOpt 1 u8 r.channel ++ u8 r.mode.code) s.stu.lastStop) s ∧
    (Accepts .eventsRead s .plain
      (flagBytes s.evs.flags ++ bytes16 (s.evs.mask.setWidth 16) ++
        uOpt 5 (fun (x : BitVec 16 × Option (BitVec 16)) => bytes16 x.1 ++ uOpt 2 bytes16 x.2) s.evs.opened ++
        uOpt 3 (fun (x : Nat × Sense) => u16 x.1 ++ u8 x.2.code) s.evs.learned ++
        uOpt 2 (fun (x : Nat × Nat) => u8 x.1 ++ u8 x.2) s.evs.switched) s) ∧
    (∀ mask : BitVec 16,
      (mask.getLsbD 15 = true → Refuses (.eventsClear mask) s .badField ∧ Refuses (.eventsMask mask) s .badField) ∧
      (mask.getLsbD 15 = false →
        Accepts (.eventsMask mask) s .plain (bytes16 mask) { s with evs.mask := mask.setWidth 15 } ∧
        ∃ flags : BitVec 15, (∀ i, flags.getLsbD i = (s.evs.flags.getLsbD i && !mask.getLsbD i)) ∧
          Accepts (.eventsClear mask) s .plain (flagBytes flags) { s with evs.flags := flags })) ∧
    read 0 (counters ([s.evs.weft.woven] ++ s.evs.weft.wovenCh.toList ++ s.evs.weft.packageOut.toList ++ [s.evs.weft.weftLate])) ∧
    read 1 (counters s.evs.floats.list ++ u8 s.flm.lwarp) ∧
    read 2 (counters (s.evs.chains.echoMismatch.toList ++ s.evs.chains.markerFault.toList ++ [s.evs.chains.patternLate]) ++
      s.hcu.chains.toList.flatMap fun (c : Chain) => u8 c.state.code) ∧
    read 3 (counters s.evs.stops.list) ∧ read 4 (counters s.evs.link.list) ∧
    clear 0 { s.evs with weft := .zero } ∧ clear 1 { s.evs with floats := .zero } ∧ clear 2 { s.evs with chains := .zero } ∧
    clear 3 { s.evs with stops := .zero } ∧ clear 4 { s.evs with link := .zero } ∧
    ∀ group : Byte, 5 ≤ group.toNat → Refuses (.statsRead group) s .badField ∧ Refuses (.statsClear group) s .badField

/-- SOFT_RESET: refused outside STOPPED; taken, every block takes its soft-reset values, the station's tables stay, and one STATE report is
queued after the queue is emptied. The message being sent is sent to its end (log 16). -/
def Obligations.SoftReset : Prop :=
  ∀ s : State, s.dlp.work = none →
    (s.stu.weaving ≠ .stopped → Refuses .softReset s .wrongState) ∧
    (s.stu.weaving = .stopped → ∃ t, Accepts .softReset s .plain [] t ∧
      t.stu = { s.stu with swap := .off, lastStop := none, sync0 := false, sync1 := false, wait := none } ∧
      t.pq = { s.pq with steps := [], counter := 0 } ∧ t.ps = { s.ps with window := none } ∧ t.wct = s.wct ∧
      t.pcm = { s.pcm with staging := none, nextPick := 0, programEnd := false, marked := false } ∧ t.flm = { s.flm with runs := [] } ∧
      t.ph = { shed := none, ring := [], origin := true, representing := none } ∧
      (t.hcu.transferDue = false ∧ t.hcu.probing = none ∧ ∀ i, i < 4 → t.chain i =
        { s.chain i with state := if (s.chain i).modules = 0 then .disabled else .unprobed, image := 0, probe := .absent, shift := none }) ∧
      t.hft = { s.hft with entries := s.hft.entries.filter fun e => !e.isLearned, agingCounter := 0, position := none,
                           fullMisses := 0, spareMismatch := 0 } ∧
      (t.wsu = { s.wsu with map := t.wsu.map, ready := t.wsu.ready, finger := .off, release := none, servedG := none } ∧
        ∀ w, w < 8 → t.wsu.entry w = { s.wsu.entry w with selection := .primary, exhausted := false } ∧ t.wsu.isReady w = true) ∧
      (t.llp.received = [] ∧
        t.llp.queue = [.state { weaving := .stopped, shedG := none, tag := none, channel := none, clamped := false, representing := false,
                                 finger := .off }] ∧
        t.llp.sending = if s.llp.sending.isSome then s.llp.sending else s.llp.queue.head?) ∧
      t.evs = { State.reset.evs with mask := s.evs.mask } ∧ t.free = s.free ∧ t.pending = s.pending)

/-! ### The staging record under edits -/

/-- An accepted command of the staging invalidation list (SOFT_RESET, FIND and PICK_BACK have statements of their own). A composition in flight
goes on, but for the commands taken in STOPPED alone, which abandon it. A later record is discarded with its transfer: the step it leaves is not
OPEN without the shed. In STOPPED and FINDING nothing is composed in its place. In RUNNING the successor is asked for afresh and composed at once
with the same G and no channel: the next pick of the shed's step, or pick 0 of a step that opens again. FAULT_REMOVE shows the whole frame. -/
def Obligations.StagingInvalidation : Prop :=
  (∀ (c : Instr) (s t : State) (st : Staging), s.dlp.work = none → s.pcm.staging = some st → StagingEvent c s st → exec c s = .next t →
    (t.dlp.work = some .probe ∨ ∃ r, t.dlp.response = some r ∧ r.outcome = .accept) →
    t.stu.weaving = s.stu.weaving ∧ ((∀ p, s.ph.shed = some p → p.channel ≠ none) → t.ph = s.ph) ∧
    (∀ r, st.phase = .composing r →
      let stops := match c with
        | .sectionWrite _ _ _ _ _ _ _ _ | .floatLimits _ | .chainConfig _ _ _ | .chainProbe _ => True
        | _ => False
      (stops → t.pcm.staging = none) ∧ (¬ stops → ∃ reads, t.pcm.staging = some ⟨st.pick, .composing reads⟩)) ∧
    ((∀ r, st.phase ≠ .composing r) →
      t.shifting .transfer = false ∧
      (s.stu.weaving ≠ .running → t.pcm.staging = none ∧ t.pcm.nextPick = s.pcm.nextPick ∧ t.pcm.programEnd = s.pcm.programEnd ∧
        ∀ x, t.step? st.pick.seq = some x → x.state = .opened → ∃ p, s.ph.shed = some p ∧ p.seq = st.pick.seq) ∧
      (s.stu.weaving = .running → QueueSound s → ∀ p x, s.ph.shed = some p → s.step? p.seq = some x → p.t + 1 < x.picks →
        ∃ y, t.pcm = { s.pcm with staging := some ⟨y, .composing { slots := none, rows := [] }⟩, programEnd := false, marked := false } ∧
          (y.g, y.seq, y.t) = (p.g + 1, p.seq, p.t + 1) ∧ (s.wsu.servedG ≠ some (p.g + 1) → y.channel = none)))) ∧
  ∀ (s : State) (hook : BitVec 16) (e : FaultEntry) (st : Staging), s.dlp.work = none → hook.toNat < 12288 →
    s.hft.find hook.toNat = some e → s.pcm.staging = some st →
    ∃ t, exec (.faultRemove hook) s = .next t ∧ t.hft.find hook.toNat = none ∧
      (∀ r, st.phase = .composing r → t.pcm = s.pcm ∧ t.hcu = s.hcu ∧ t.pq = s.pq) ∧
      ((∀ r, st.phase ≠ .composing r) →
        (∀ i, i < 4 → (t.chain i).image = (s.chain i).image ∧ (t.chain i).state = (s.chain i).state) ∧
        (s.stu.weaving ≠ .running →
          t = { s with pcm := { s.pcm with staging := none }, hcu := t.hcu, pq := t.pq, hft := t.hft, dlp := t.dlp } ∧
          ∀ x, s.step? st.pick.seq = some x → t.step? st.pick.seq =
            some (if x.state = .opened ∧ (s.ph.shed.all fun p => p.seq ≠ st.pick.seq) then { x with state := .waiting, rowBase := none }
              else x)) ∧
        ∀ before x after, s.stu.weaving = .running → s.pq.steps = before ++ x :: after → x.seq = st.pick.seq → x.state = .opened →
          (∀ y ∈ before, y.state ≠ .waiting ∧ y.seq ≠ x.seq) → (∀ y ∈ after, y.seq ≠ x.seq) →
          (s.ph.shed = none ∨ ∃ p z, s.ph.shed = some p ∧ s.step? p.seq = some z ∧ z ∈ before ∧ z.n * z.period * z.p ≤ p.t + 1) →
          s.wsu.servedG ≠ some (match s.ph.shed with | some p => p.g + 1 | none => s.pcm.nextPick) →
          (t.pcm.staging.map fun y => (y.pick.g, y.pick.seq, y.pick.t, y.pick.channel)) =
            some (match s.ph.shed with | some p => p.g + 1 | none => s.pcm.nextPick, x.seq, 0, none) ∧
          (∀ y ∈ t.pcm.staging.toList, y.phase = .composing { slots := none, rows := [] }) ∧
          (∃ y, t.step? x.seq = some y ∧ y.state = .opened) ∧ t.flag .stepOpened = true ∧ t.evs.opened = some (x.seq, x.tag))

/-! ### Invariants of every step -/

/-- A step keeps the records well formed. -/
def Obligations.StepKeepsRecordsWellFormed : Prop :=
  ∀ s t : State, RecordsWellFormed s → step s = .next t → RecordsWellFormed t

/-- A step keeps the float limits: no run counter passes the warp limit and no composed record raises a hook it bars. -/
def Obligations.StepKeepsFloatsLimited : Prop :=
  ∀ s t : State, FloatsLimited s → step s = .next t → FloatsLimited t

/-- A step keeps the chains consistent and BUSY held by exactly the work that goes on. -/
def Obligations.StepKeepsChainsSound : Prop :=
  ∀ s t : State, ChainsSound s → step s = .next t → ChainsSound t

/-- A step keeps the picks numbered in order through ring, shed and staging, and the queue the steps that these records refer to, CLOSED before
OPEN before PENDING. -/
def Obligations.StepKeepsPicksNumbered : Prop :=
  (∀ s t : State, NumberedInOrder s → step s = .next t → NumberedInOrder t) ∧
  ∀ s t : State, QueueSound s → step s = .next t → QueueSound t

/-- A step keeps sections apart and on hooks that exist, and every substitute on a free hook of one entry. -/
def Obligations.StepKeepsSubstitutesFree : Prop :=
  ∀ s t : State, SubstitutesFree s → step s = .next t → SubstitutesFree t

/-- The state after reset meets every invariant. -/
def Obligations.ResetMeetsInvariants : Prop :=
  RecordsWellFormed State.reset ∧ FloatsLimited State.reset ∧ ChainsSound State.reset ∧ NumberedInOrder State.reset ∧
    QueueSound State.reset ∧ SubstitutesFree State.reset
end

