-- ==== Sys2Proof/Laws/Cells.lean ====
section
/-! SUPPORT. The cells of the pattern store: reads after writes and clears, and that every operation keeps the canonical form. -/

namespace Sys2Proof.Machine

/-- The canonical form as a proposition. -/
theorem CellMem.wf_iff (m : CellMem) : m.wf = true ↔ m.Pairwise (fun p q => p.1 < q.1) ∧ ∀ p ∈ m, p.2 ≠ 0#4 := by
  simp [CellMem.wf]

/-- The addresses of a store written once are those it had, or the address written. -/
theorem mem_writeCell {m : CellMem} {a : Nat} {x : Colour} {p : Nat × Colour} (h : p ∈ writeCell m a x) :
    p ∈ m ∨ p = (a, x) ∧ x ≠ 0#4 := by
  induction m with
  | nil => simp only [writeCell] at h; split at h <;> simp_all
  | cons q rest ih =>
    obtain ⟨b, y⟩ := q
    simp only [writeCell] at h
    split at h
    · (split at h <;> simp_all); tauto
    · split at h
      · (split at h <;> simp_all); tauto
      · simp only [List.mem_cons] at h ⊢
        rcases h with h | h
        · exact .inl (.inl h)
        · rcases ih h with h | h
          · exact .inl (.inr h)
          · exact .inr h

/-- A write keeps the canonical form. -/
theorem writeCell_wf {m : CellMem} (a : Nat) (x : Colour) (h : m.wf = true) : (writeCell m a x).wf = true := by
  rw [CellMem.wf_iff] at h ⊢
  refine ⟨?_, fun p hp => ?_⟩
  · induction m with
    | nil => simp only [writeCell]; split <;> simp
    | cons q rest ih =>
      obtain ⟨b, y⟩ := q
      obtain ⟨hp, hz⟩ := h
      rw [List.pairwise_cons] at hp
      have ih := ih ⟨hp.2, fun p hm => hz p (List.mem_cons_of_mem _ hm)⟩
      simp only [writeCell]
      split
      · rename_i hab
        split
        · exact List.pairwise_cons.2 ⟨hp.1, hp.2⟩
        · refine List.pairwise_cons.2 ⟨fun p hm => ?_, List.pairwise_cons.2 ⟨hp.1, hp.2⟩⟩
          rcases List.mem_cons.1 hm with rfl | hm
          · exact hab
          · exact Nat.lt_trans hab (hp.1 p hm)
      · split
        · rename_i hab; subst hab
          split
          · exact hp.2
          · exact List.pairwise_cons.2 ⟨hp.1, hp.2⟩
        · refine List.pairwise_cons.2 ⟨fun p hm => ?_, ih⟩
          rcases mem_writeCell hm with hm | ⟨rfl, -⟩
          · exact hp.1 p hm
          · simp only; omega
  · rcases mem_writeCell hp with hm | ⟨rfl, hx⟩
    · exact h.2 p hm
    · exact hx

/-- A clear keeps the canonical form. -/
theorem clearCells_wf {m : CellMem} (first n : Nat) (h : m.wf = true) : (clearCells m first n).wf = true := by
  rw [CellMem.wf_iff] at h ⊢
  exact ⟨h.1.filter _, fun p hp => h.2 p (List.mem_of_mem_filter hp)⟩

/-- Writing at the cursor keeps the canonical form. -/
theorem writeAtCursor_wf (d : Design) (l : List Colour) {m : CellMem} (w : Window) (h : m.wf = true) :
    (writeAtCursor d l m w).1.wf = true := by
  induction l generalizing m w with
  | nil => exact h
  | cons x rest ih => exact ih _ (writeCell_wf _ _ h)

/-- The store after reset is canonical. -/
theorem reset_cells_wf : State.reset.ps.cells.wf = true := by decide

/-- An address below every listed one reads as colour 0. -/
theorem readCell_below {m : CellMem} {a : Nat} (h : ∀ p ∈ m, a < p.1) : readCell m a = 0#4 := by
  induction m with
  | nil => rfl
  | cons q rest ih =>
    obtain ⟨b, y⟩ := q
    have hb := h (b, y) (List.mem_cons_self ..)
    simp only [readCell]
    rw [if_neg (by simp only at hb; omega)]
    exact ih fun p hp => h p (List.mem_cons_of_mem _ hp)

/-- Reading one address after a write to it, and another address after it. -/
theorem readCell_writeCell {m : CellMem} (a b : Nat) (x : Colour) (h : m.wf = true) :
    readCell (writeCell m a x) b = if b = a then x else readCell m b := by
  rw [CellMem.wf_iff] at h
  induction m with
  | nil =>
    simp only [writeCell]
    split <;> simp_all [readCell]
  | cons q rest ih =>
    obtain ⟨c, y⟩ := q
    obtain ⟨hp, hz⟩ := h
    rw [List.pairwise_cons] at hp
    have ih := ih ⟨hp.2, fun p hm => hz p (List.mem_cons_of_mem _ hm)⟩
    simp only [writeCell]
    split
    · rename_i hac
      split
      · rename_i hx; subst hx
        by_cases hb : b = a
        · subst hb
          rw [if_pos rfl]
          apply readCell_below
          intro p hm
          rcases List.mem_cons.1 hm with rfl | hm
          · exact hac
          · exact Nat.lt_trans hac (hp.1 p hm)
        · rw [if_neg hb]
      · simp only [readCell]
    · split
      · rename_i hac; subst hac
        split
        · rename_i hx; subst hx
          by_cases hb : b = a
          · subst hb
            rw [if_pos rfl]
            exact readCell_below hp.1
          · simp only [readCell, if_neg hb]
        · by_cases hb : b = a <;> simp [readCell, hb]
      · rename_i h1 h2
        simp only [readCell]
        by_cases hb : b = c
        · subst hb
          rw [if_pos rfl, if_neg (by omega), if_pos rfl]
        · rw [if_neg hb, ih, if_neg hb]

/-- Reading after a clear: 0 in the cleared range, as before elsewhere. -/
theorem readCell_clearCells (m : CellMem) (first n a : Nat) :
    readCell (clearCells m first n) a = if first ≤ a ∧ a < first + n then 0#4 else readCell m a := by
  induction m with
  | nil => simp [clearCells, readCell]
  | cons q rest ih =>
    obtain ⟨b, y⟩ := q
    simp only [clearCells] at ih
    by_cases hb : b < first ∨ first + n ≤ b
    · simp only [clearCells, List.filter_cons, hb, decide_true, if_true, readCell, ih]
      by_cases hab : a = b
      · subst hab
        rw [if_pos rfl, if_neg (by omega), if_pos rfl]
      · rw [if_neg hab, if_neg hab]
    · simp only [clearCells, List.filter_cons, hb, decide_false, readCell]
      by_cases hab : a = b
      · subst hab
        simp only [Bool.false_eq_true, if_false, ih, if_pos (show first ≤ a ∧ a < first + n by omega)]
      · simp only [Bool.false_eq_true, if_false, ih, if_neg hab]

end Sys2Proof.Machine
end

