-- ==== Sys2Proof/Laws/Echo.lean ====
section
/-! SUPPORT. What a chain's echo gives: the bits of a share read in descending order, the sensed states, the marker check. -/

namespace Sys2Proof.Machine

/-- The bits of a number put together highest bit first. -/
theorem testBit_foldl_raised (l : List ChainValue) (n i : Nat) :
    (l.foldl (fun n v => 2 * n + (isRaised v).toNat) n).testBit i =
      if i < l.length then isRaised (l.getD (l.length - 1 - i) .marker) else n.testBit (i - l.length) := by
  induction l generalizing n with
  | nil => simp
  | cons v l ih =>
    rw [List.foldl_cons, ih]
    rcases Nat.lt_trichotomy i l.length with h | h | h
    · rw [if_pos h, if_pos (by simp; omega), List.length_cons, show l.length + 1 - 1 - i = (l.length - 1 - i) + 1 by omega,
        List.getD_cons_succ]
    · subst h
      cases hv : isRaised v <;> simp [hv]
    · have : i - l.length = (i - (l.length + 1)) + 1 := by omega
      have low : ∀ b : Bool, (2 * n + b.toNat) / 2 = n := fun b => by cases b <;> simp [Nat.add_div]
      simp [Nat.not_lt.2 (Nat.le_of_lt h), Nat.not_lt.2 h, this, Nat.testBit_succ, low]

/-- Bit `i` of a share read in descending order is the value `i` places before the last. -/
theorem getLsbD_descending (l : List ChainValue) (i : Nat) (hi : i < 3072) :
    (descending l).getLsbD i = (decide (i < l.length) && isRaised (l.getD (l.length - 1 - i) .marker)) := by
  rw [descending, BitVec.getLsbD_ofNat, testBit_foldl_raised]
  by_cases h : i < l.length <;> simp [h, hi]

/-- The sensed states of an echo that passes the marker check (R133). -/
theorem getLsbD_descending_soundEcho {hooks : Nat} {sensed : Share} {values : List ChainValue} {final : ChainValue}
    (h : SoundEcho hooks sensed values final) (i : Nat) (hi : i < hooks) (hw : i < 3072) :
    (descending values).getLsbD i = sensed.getLsbD i := by
  rw [getLsbD_descending _ _ hw, h.1, List.getD_eq_getElem?_getD, h.2.2 i hi]
  simp [hi, isRaised]

/-- The echo of a sound chain passes the marker check (R133). -/
theorem markerSound_of_soundEcho {hooks : Nat} {sensed : Share} {values : List ChainValue} {final : ChainValue}
    (h : SoundEcho hooks sensed values final) : markerSound values final = true := by
  simp only [markerSound, h.2.1, decide_true, Bool.true_and, Bool.not_eq_true']
  rw [Bool.eq_false_iff, ne_eq, List.contains_iff_mem]
  intro hm
  obtain ⟨k, hk, he⟩ := List.mem_iff_getElem.1 hm
  have len := h.1
  have := h.2.2 (hooks - 1 - k) (by omega)
  rw [show hooks - 1 - (hooks - 1 - k) = k by omega, List.getElem?_eq_getElem hk, he] at this
  cases this

/-- An echo without its marker in place fails the marker check (R133). -/
theorem markerSound_of_failedEcho {hooks : Nat} {values : List ChainValue} {final : ChainValue} (h : FailedEcho hooks values final) :
    markerSound values final = false := by
  rcases h.2 with h | h
  · simp [markerSound, h]
  · simp [markerSound, h]

end Sys2Proof.Machine
end

