-- ==== Sys2Proof/Laws/State.lean ====
section
/-! SUPPORT. One lemma for each block and each plain update of the state: what the update leaves as it was, and what it makes of the
block it changes. -/

namespace Sys2Proof.Machine

variable (s : State)


@[simp] theorem State.raise_stu (f : EventFlag) : (s.raise f).stu = s.stu := rfl
@[simp] theorem State.raise_pq (f : EventFlag) : (s.raise f).pq = s.pq := rfl
@[simp] theorem State.raise_ps (f : EventFlag) : (s.raise f).ps = s.ps := rfl
@[simp] theorem State.raise_wct (f : EventFlag) : (s.raise f).wct = s.wct := rfl
@[simp] theorem State.raise_pcm (f : EventFlag) : (s.raise f).pcm = s.pcm := rfl
@[simp] theorem State.raise_flm (f : EventFlag) : (s.raise f).flm = s.flm := rfl
@[simp] theorem State.raise_ph (f : EventFlag) : (s.raise f).ph = s.ph := rfl
@[simp] theorem State.raise_hcu (f : EventFlag) : (s.raise f).hcu = s.hcu := rfl
@[simp] theorem State.raise_hft (f : EventFlag) : (s.raise f).hft = s.hft := rfl
@[simp] theorem State.raise_wsu (f : EventFlag) : (s.raise f).wsu = s.wsu := rfl
@[simp] theorem State.raise_dlp (f : EventFlag) : (s.raise f).dlp = s.dlp := rfl
@[simp] theorem State.raise_llp (f : EventFlag) : (s.raise f).llp = s.llp := rfl
@[simp] theorem State.raise_free (f : EventFlag) : (s.raise f).free = s.free := rfl
@[simp] theorem State.raise_pending (f : EventFlag) : (s.raise f).pending = s.pending := rfl
theorem State.raise_evs (f : EventFlag) : (s.raise f).evs =
    { s.evs with flags := s.evs.flags ||| f.bit } := rfl

@[simp] theorem State.answer_stu (k : Byte) (o : ReplyOutcome) (d : Detail) (p : List Byte) : (s.answer k o d p).stu = s.stu := rfl
@[simp] theorem State.answer_pq (k : Byte) (o : ReplyOutcome) (d : Detail) (p : List Byte) : (s.answer k o d p).pq = s.pq := rfl
@[simp] theorem State.answer_ps (k : Byte) (o : ReplyOutcome) (d : Detail) (p : List Byte) : (s.answer k o d p).ps = s.ps := rfl
@[simp] theorem State.answer_wct (k : Byte) (o : ReplyOutcome) (d : Detail) (p : List Byte) : (s.answer k o d p).wct = s.wct := rfl
@[simp] theorem State.answer_pcm (k : Byte) (o : ReplyOutcome) (d : Detail) (p : List Byte) : (s.answer k o d p).pcm = s.pcm := rfl
@[simp] theorem State.answer_flm (k : Byte) (o : ReplyOutcome) (d : Detail) (p : List Byte) : (s.answer k o d p).flm = s.flm := rfl
@[simp] theorem State.answer_ph (k : Byte) (o : ReplyOutcome) (d : Detail) (p : List Byte) : (s.answer k o d p).ph = s.ph := rfl
@[simp] theorem State.answer_hcu (k : Byte) (o : ReplyOutcome) (d : Detail) (p : List Byte) : (s.answer k o d p).hcu = s.hcu := rfl
@[simp] theorem State.answer_hft (k : Byte) (o : ReplyOutcome) (d : Detail) (p : List Byte) : (s.answer k o d p).hft = s.hft := rfl
@[simp] theorem State.answer_wsu (k : Byte) (o : ReplyOutcome) (d : Detail) (p : List Byte) : (s.answer k o d p).wsu = s.wsu := rfl
@[simp] theorem State.answer_llp (k : Byte) (o : ReplyOutcome) (d : Detail) (p : List Byte) : (s.answer k o d p).llp = s.llp := rfl
@[simp] theorem State.answer_evs (k : Byte) (o : ReplyOutcome) (d : Detail) (p : List Byte) : (s.answer k o d p).evs = s.evs := rfl
@[simp] theorem State.answer_free (k : Byte) (o : ReplyOutcome) (d : Detail) (p : List Byte) : (s.answer k o d p).free = s.free := rfl
@[simp] theorem State.answer_pending (k : Byte) (o : ReplyOutcome) (d : Detail) (p : List Byte) : (s.answer k o d p).pending = s.pending := rfl
theorem State.answer_dlp (k : Byte) (o : ReplyOutcome) (d : Detail) (p : List Byte) : (s.answer k o d p).dlp =
    { s.dlp with response := some { outcome := o, kind := k, detail := d, payload := p }, work := none } := rfl

@[simp] theorem State.setSources_pq (x : SyncSource) : (s.setSources x).pq = s.pq := rfl
@[simp] theorem State.setSources_ps (x : SyncSource) : (s.setSources x).ps = s.ps := rfl
@[simp] theorem State.setSources_wct (x : SyncSource) : (s.setSources x).wct = s.wct := rfl
@[simp] theorem State.setSources_pcm (x : SyncSource) : (s.setSources x).pcm = s.pcm := rfl
@[simp] theorem State.setSources_flm (x : SyncSource) : (s.setSources x).flm = s.flm := rfl
@[simp] theorem State.setSources_ph (x : SyncSource) : (s.setSources x).ph = s.ph := rfl
@[simp] theorem State.setSources_hcu (x : SyncSource) : (s.setSources x).hcu = s.hcu := rfl
@[simp] theorem State.setSources_hft (x : SyncSource) : (s.setSources x).hft = s.hft := rfl
@[simp] theorem State.setSources_wsu (x : SyncSource) : (s.setSources x).wsu = s.wsu := rfl
@[simp] theorem State.setSources_dlp (x : SyncSource) : (s.setSources x).dlp = s.dlp := rfl
@[simp] theorem State.setSources_llp (x : SyncSource) : (s.setSources x).llp = s.llp := rfl
@[simp] theorem State.setSources_evs (x : SyncSource) : (s.setSources x).evs = s.evs := rfl
@[simp] theorem State.setSources_free (x : SyncSource) : (s.setSources x).free = s.free := rfl
@[simp] theorem State.setSources_pending (x : SyncSource) : (s.setSources x).pending = s.pending := rfl

@[simp] theorem State.clearWaited_pq (w : Wait) : (s.clearWaited w).pq = s.pq := rfl
@[simp] theorem State.clearWaited_ps (w : Wait) : (s.clearWaited w).ps = s.ps := rfl
@[simp] theorem State.clearWaited_wct (w : Wait) : (s.clearWaited w).wct = s.wct := rfl
@[simp] theorem State.clearWaited_pcm (w : Wait) : (s.clearWaited w).pcm = s.pcm := rfl
@[simp] theorem State.clearWaited_flm (w : Wait) : (s.clearWaited w).flm = s.flm := rfl
@[simp] theorem State.clearWaited_ph (w : Wait) : (s.clearWaited w).ph = s.ph := rfl
@[simp] theorem State.clearWaited_hcu (w : Wait) : (s.clearWaited w).hcu = s.hcu := rfl
@[simp] theorem State.clearWaited_hft (w : Wait) : (s.clearWaited w).hft = s.hft := rfl
@[simp] theorem State.clearWaited_wsu (w : Wait) : (s.clearWaited w).wsu = s.wsu := rfl
@[simp] theorem State.clearWaited_dlp (w : Wait) : (s.clearWaited w).dlp = s.dlp := rfl
@[simp] theorem State.clearWaited_llp (w : Wait) : (s.clearWaited w).llp = s.llp := rfl
@[simp] theorem State.clearWaited_evs (w : Wait) : (s.clearWaited w).evs = s.evs := rfl
@[simp] theorem State.clearWaited_free (w : Wait) : (s.clearWaited w).free = s.free := rfl
@[simp] theorem State.clearWaited_pending (w : Wait) : (s.clearWaited w).pending = s.pending := rfl

@[simp] theorem State.meetWait_pq (w : Wait) : (s.meetWait w).pq = s.pq := rfl
@[simp] theorem State.meetWait_ps (w : Wait) : (s.meetWait w).ps = s.ps := rfl
@[simp] theorem State.meetWait_wct (w : Wait) : (s.meetWait w).wct = s.wct := rfl
@[simp] theorem State.meetWait_pcm (w : Wait) : (s.meetWait w).pcm = s.pcm := rfl
@[simp] theorem State.meetWait_flm (w : Wait) : (s.meetWait w).flm = s.flm := rfl
@[simp] theorem State.meetWait_ph (w : Wait) : (s.meetWait w).ph = s.ph := rfl
@[simp] theorem State.meetWait_hcu (w : Wait) : (s.meetWait w).hcu = s.hcu := rfl
@[simp] theorem State.meetWait_hft (w : Wait) : (s.meetWait w).hft = s.hft := rfl
@[simp] theorem State.meetWait_wsu (w : Wait) : (s.meetWait w).wsu = s.wsu := rfl
@[simp] theorem State.meetWait_llp (w : Wait) : (s.meetWait w).llp = s.llp := rfl
@[simp] theorem State.meetWait_evs (w : Wait) : (s.meetWait w).evs = s.evs := rfl
@[simp] theorem State.meetWait_free (w : Wait) : (s.meetWait w).free = s.free := rfl
@[simp] theorem State.meetWait_pending (w : Wait) : (s.meetWait w).pending = s.pending := rfl

@[simp] theorem State.discardBracket_stu (n : Nat) : (s.discardBracket n).stu = s.stu := rfl
@[simp] theorem State.discardBracket_pq (n : Nat) : (s.discardBracket n).pq = s.pq := rfl
@[simp] theorem State.discardBracket_ps (n : Nat) : (s.discardBracket n).ps = s.ps := rfl
@[simp] theorem State.discardBracket_wct (n : Nat) : (s.discardBracket n).wct = s.wct := rfl
@[simp] theorem State.discardBracket_pcm (n : Nat) : (s.discardBracket n).pcm = s.pcm := rfl
@[simp] theorem State.discardBracket_flm (n : Nat) : (s.discardBracket n).flm = s.flm := rfl
@[simp] theorem State.discardBracket_ph (n : Nat) : (s.discardBracket n).ph = s.ph := rfl
@[simp] theorem State.discardBracket_hcu (n : Nat) : (s.discardBracket n).hcu = s.hcu := rfl
@[simp] theorem State.discardBracket_hft (n : Nat) : (s.discardBracket n).hft = s.hft := rfl
@[simp] theorem State.discardBracket_wsu (n : Nat) : (s.discardBracket n).wsu = s.wsu := rfl
@[simp] theorem State.discardBracket_llp (n : Nat) : (s.discardBracket n).llp = s.llp := rfl
@[simp] theorem State.discardBracket_free (n : Nat) : (s.discardBracket n).free = s.free := rfl
@[simp] theorem State.discardBracket_pending (n : Nat) : (s.discardBracket n).pending = s.pending := rfl
theorem State.discardBracket_evs (n : Nat) : (s.discardBracket n).evs =
    { s.evs with link := { s.evs.link with dlBusyDiscard := bump s.evs.link.dlBusyDiscard } } := rfl
theorem State.discardBracket_dlp (n : Nat) : (s.discardBracket n).dlp = { s.dlp with shiftedOut := idleBytes n } := rfl

@[simp] theorem State.frameIn_stu (l : List Byte) : (s.frameIn l).stu = s.stu := rfl
@[simp] theorem State.frameIn_pq (l : List Byte) : (s.frameIn l).pq = s.pq := rfl
@[simp] theorem State.frameIn_ps (l : List Byte) : (s.frameIn l).ps = s.ps := rfl
@[simp] theorem State.frameIn_wct (l : List Byte) : (s.frameIn l).wct = s.wct := rfl
@[simp] theorem State.frameIn_pcm (l : List Byte) : (s.frameIn l).pcm = s.pcm := rfl
@[simp] theorem State.frameIn_flm (l : List Byte) : (s.frameIn l).flm = s.flm := rfl
@[simp] theorem State.frameIn_ph (l : List Byte) : (s.frameIn l).ph = s.ph := rfl
@[simp] theorem State.frameIn_hcu (l : List Byte) : (s.frameIn l).hcu = s.hcu := rfl
@[simp] theorem State.frameIn_hft (l : List Byte) : (s.frameIn l).hft = s.hft := rfl
@[simp] theorem State.frameIn_wsu (l : List Byte) : (s.frameIn l).wsu = s.wsu := rfl
@[simp] theorem State.frameIn_llp (l : List Byte) : (s.frameIn l).llp = s.llp := rfl
@[simp] theorem State.frameIn_evs (l : List Byte) : (s.frameIn l).evs = s.evs := rfl
@[simp] theorem State.frameIn_free (l : List Byte) : (s.frameIn l).free = s.free := rfl
@[simp] theorem State.frameIn_pending (l : List Byte) : (s.frameIn l).pending = s.pending := rfl
theorem State.frameIn_dlp (l : List Byte) : (s.frameIn l).dlp =
    { s.dlp with frame := l.take Config.frameBufferBytes, response := none, shiftedOut := idleBytes l.length } := rfl

@[simp] theorem State.updateStep_stu (q : BitVec 16) (f : StepRec → StepRec) : (s.updateStep q f).stu = s.stu := rfl
@[simp] theorem State.updateStep_ps (q : BitVec 16) (f : StepRec → StepRec) : (s.updateStep q f).ps = s.ps := rfl
@[simp] theorem State.updateStep_wct (q : BitVec 16) (f : StepRec → StepRec) : (s.updateStep q f).wct = s.wct := rfl
@[simp] theorem State.updateStep_pcm (q : BitVec 16) (f : StepRec → StepRec) : (s.updateStep q f).pcm = s.pcm := rfl
@[simp] theorem State.updateStep_flm (q : BitVec 16) (f : StepRec → StepRec) : (s.updateStep q f).flm = s.flm := rfl
@[simp] theorem State.updateStep_ph (q : BitVec 16) (f : StepRec → StepRec) : (s.updateStep q f).ph = s.ph := rfl
@[simp] theorem State.updateStep_hcu (q : BitVec 16) (f : StepRec → StepRec) : (s.updateStep q f).hcu = s.hcu := rfl
@[simp] theorem State.updateStep_hft (q : BitVec 16) (f : StepRec → StepRec) : (s.updateStep q f).hft = s.hft := rfl
@[simp] theorem State.updateStep_wsu (q : BitVec 16) (f : StepRec → StepRec) : (s.updateStep q f).wsu = s.wsu := rfl
@[simp] theorem State.updateStep_dlp (q : BitVec 16) (f : StepRec → StepRec) : (s.updateStep q f).dlp = s.dlp := rfl
@[simp] theorem State.updateStep_llp (q : BitVec 16) (f : StepRec → StepRec) : (s.updateStep q f).llp = s.llp := rfl
@[simp] theorem State.updateStep_evs (q : BitVec 16) (f : StepRec → StepRec) : (s.updateStep q f).evs = s.evs := rfl
@[simp] theorem State.updateStep_free (q : BitVec 16) (f : StepRec → StepRec) : (s.updateStep q f).free = s.free := rfl
@[simp] theorem State.updateStep_pending (q : BitVec 16) (f : StepRec → StepRec) : (s.updateStep q f).pending = s.pending := rfl
theorem State.updateStep_pq (q : BitVec 16) (f : StepRec → StepRec) : (s.updateStep q f).pq =
    { s.pq with steps := s.pq.steps.map fun r => if r.seq = q then f r else r } := rfl

@[simp] theorem State.freeStep_stu (q : BitVec 16) : (s.freeStep q).stu = s.stu := rfl
@[simp] theorem State.freeStep_ps (q : BitVec 16) : (s.freeStep q).ps = s.ps := rfl
@[simp] theorem State.freeStep_wct (q : BitVec 16) : (s.freeStep q).wct = s.wct := rfl
@[simp] theorem State.freeStep_pcm (q : BitVec 16) : (s.freeStep q).pcm = s.pcm := rfl
@[simp] theorem State.freeStep_flm (q : BitVec 16) : (s.freeStep q).flm = s.flm := rfl
@[simp] theorem State.freeStep_ph (q : BitVec 16) : (s.freeStep q).ph = s.ph := rfl
@[simp] theorem State.freeStep_hcu (q : BitVec 16) : (s.freeStep q).hcu = s.hcu := rfl
@[simp] theorem State.freeStep_hft (q : BitVec 16) : (s.freeStep q).hft = s.hft := rfl
@[simp] theorem State.freeStep_wsu (q : BitVec 16) : (s.freeStep q).wsu = s.wsu := rfl
@[simp] theorem State.freeStep_dlp (q : BitVec 16) : (s.freeStep q).dlp = s.dlp := rfl
@[simp] theorem State.freeStep_llp (q : BitVec 16) : (s.freeStep q).llp = s.llp := rfl
@[simp] theorem State.freeStep_evs (q : BitVec 16) : (s.freeStep q).evs = s.evs := rfl
@[simp] theorem State.freeStep_free (q : BitVec 16) : (s.freeStep q).free = s.free := rfl
@[simp] theorem State.freeStep_pending (q : BitVec 16) : (s.freeStep q).pending = s.pending := rfl
theorem State.freeStep_pq (q : BitVec 16) : (s.freeStep q).pq =
    { s.pq with steps := s.pq.steps.filter fun r => r.seq ≠ q } := rfl

@[simp] theorem State.freeForAppend_stu (r : StepRec) : (s.freeForAppend r).stu = s.stu := rfl
@[simp] theorem State.freeForAppend_ps (r : StepRec) : (s.freeForAppend r).ps = s.ps := rfl
@[simp] theorem State.freeForAppend_wct (r : StepRec) : (s.freeForAppend r).wct = s.wct := rfl
@[simp] theorem State.freeForAppend_pcm (r : StepRec) : (s.freeForAppend r).pcm = s.pcm := rfl
@[simp] theorem State.freeForAppend_flm (r : StepRec) : (s.freeForAppend r).flm = s.flm := rfl
@[simp] theorem State.freeForAppend_hcu (r : StepRec) : (s.freeForAppend r).hcu = s.hcu := rfl
@[simp] theorem State.freeForAppend_hft (r : StepRec) : (s.freeForAppend r).hft = s.hft := rfl
@[simp] theorem State.freeForAppend_wsu (r : StepRec) : (s.freeForAppend r).wsu = s.wsu := rfl
@[simp] theorem State.freeForAppend_dlp (r : StepRec) : (s.freeForAppend r).dlp = s.dlp := rfl
@[simp] theorem State.freeForAppend_llp (r : StepRec) : (s.freeForAppend r).llp = s.llp := rfl
@[simp] theorem State.freeForAppend_evs (r : StepRec) : (s.freeForAppend r).evs = s.evs := rfl
@[simp] theorem State.freeForAppend_free (r : StepRec) : (s.freeForAppend r).free = s.free := rfl
@[simp] theorem State.freeForAppend_pending (r : StepRec) : (s.freeForAppend r).pending = s.pending := rfl

@[simp] theorem State.joinQueue_stu (f : BitVec 16 → StepRec) : (s.joinQueue f).stu = s.stu := rfl
@[simp] theorem State.joinQueue_ps (f : BitVec 16 → StepRec) : (s.joinQueue f).ps = s.ps := rfl
@[simp] theorem State.joinQueue_wct (f : BitVec 16 → StepRec) : (s.joinQueue f).wct = s.wct := rfl
@[simp] theorem State.joinQueue_pcm (f : BitVec 16 → StepRec) : (s.joinQueue f).pcm = s.pcm := rfl
@[simp] theorem State.joinQueue_flm (f : BitVec 16 → StepRec) : (s.joinQueue f).flm = s.flm := rfl
@[simp] theorem State.joinQueue_ph (f : BitVec 16 → StepRec) : (s.joinQueue f).ph = s.ph := rfl
@[simp] theorem State.joinQueue_hcu (f : BitVec 16 → StepRec) : (s.joinQueue f).hcu = s.hcu := rfl
@[simp] theorem State.joinQueue_hft (f : BitVec 16 → StepRec) : (s.joinQueue f).hft = s.hft := rfl
@[simp] theorem State.joinQueue_wsu (f : BitVec 16 → StepRec) : (s.joinQueue f).wsu = s.wsu := rfl
@[simp] theorem State.joinQueue_dlp (f : BitVec 16 → StepRec) : (s.joinQueue f).dlp = s.dlp := rfl
@[simp] theorem State.joinQueue_llp (f : BitVec 16 → StepRec) : (s.joinQueue f).llp = s.llp := rfl
@[simp] theorem State.joinQueue_evs (f : BitVec 16 → StepRec) : (s.joinQueue f).evs = s.evs := rfl
@[simp] theorem State.joinQueue_free (f : BitVec 16 → StepRec) : (s.joinQueue f).free = s.free := rfl
@[simp] theorem State.joinQueue_pending (f : BitVec 16 → StepRec) : (s.joinQueue f).pending = s.pending := rfl

@[simp] theorem State.reopenStep_stu (q : BitVec 16) : (s.reopenStep q).stu = s.stu := rfl
@[simp] theorem State.reopenStep_ps (q : BitVec 16) : (s.reopenStep q).ps = s.ps := rfl
@[simp] theorem State.reopenStep_wct (q : BitVec 16) : (s.reopenStep q).wct = s.wct := rfl
@[simp] theorem State.reopenStep_pcm (q : BitVec 16) : (s.reopenStep q).pcm = s.pcm := rfl
@[simp] theorem State.reopenStep_flm (q : BitVec 16) : (s.reopenStep q).flm = s.flm := rfl
@[simp] theorem State.reopenStep_ph (q : BitVec 16) : (s.reopenStep q).ph = s.ph := rfl
@[simp] theorem State.reopenStep_hcu (q : BitVec 16) : (s.reopenStep q).hcu = s.hcu := rfl
@[simp] theorem State.reopenStep_hft (q : BitVec 16) : (s.reopenStep q).hft = s.hft := rfl
@[simp] theorem State.reopenStep_wsu (q : BitVec 16) : (s.reopenStep q).wsu = s.wsu := rfl
@[simp] theorem State.reopenStep_dlp (q : BitVec 16) : (s.reopenStep q).dlp = s.dlp := rfl
@[simp] theorem State.reopenStep_llp (q : BitVec 16) : (s.reopenStep q).llp = s.llp := rfl
@[simp] theorem State.reopenStep_evs (q : BitVec 16) : (s.reopenStep q).evs = s.evs := rfl
@[simp] theorem State.reopenStep_free (q : BitVec 16) : (s.reopenStep q).free = s.free := rfl
@[simp] theorem State.reopenStep_pending (q : BitVec 16) : (s.reopenStep q).pending = s.pending := rfl

@[simp] theorem State.extendStep_stu (q : BitVec 16) : (s.extendStep q).stu = s.stu := rfl
@[simp] theorem State.extendStep_ps (q : BitVec 16) : (s.extendStep q).ps = s.ps := rfl
@[simp] theorem State.extendStep_wct (q : BitVec 16) : (s.extendStep q).wct = s.wct := rfl
@[simp] theorem State.extendStep_pcm (q : BitVec 16) : (s.extendStep q).pcm = s.pcm := rfl
@[simp] theorem State.extendStep_flm (q : BitVec 16) : (s.extendStep q).flm = s.flm := rfl
@[simp] theorem State.extendStep_ph (q : BitVec 16) : (s.extendStep q).ph = s.ph := rfl
@[simp] theorem State.extendStep_hcu (q : BitVec 16) : (s.extendStep q).hcu = s.hcu := rfl
@[simp] theorem State.extendStep_hft (q : BitVec 16) : (s.extendStep q).hft = s.hft := rfl
@[simp] theorem State.extendStep_wsu (q : BitVec 16) : (s.extendStep q).wsu = s.wsu := rfl
@[simp] theorem State.extendStep_dlp (q : BitVec 16) : (s.extendStep q).dlp = s.dlp := rfl
@[simp] theorem State.extendStep_llp (q : BitVec 16) : (s.extendStep q).llp = s.llp := rfl
@[simp] theorem State.extendStep_free (q : BitVec 16) : (s.extendStep q).free = s.free := rfl
@[simp] theorem State.extendStep_pending (q : BitVec 16) : (s.extendStep q).pending = s.pending := rfl

@[simp] theorem State.updateChain_stu (c : Nat) (f : Chain → Chain) : (s.updateChain c f).stu = s.stu := rfl
@[simp] theorem State.updateChain_pq (c : Nat) (f : Chain → Chain) : (s.updateChain c f).pq = s.pq := rfl
@[simp] theorem State.updateChain_ps (c : Nat) (f : Chain → Chain) : (s.updateChain c f).ps = s.ps := rfl
@[simp] theorem State.updateChain_wct (c : Nat) (f : Chain → Chain) : (s.updateChain c f).wct = s.wct := rfl
@[simp] theorem State.updateChain_pcm (c : Nat) (f : Chain → Chain) : (s.updateChain c f).pcm = s.pcm := rfl
@[simp] theorem State.updateChain_flm (c : Nat) (f : Chain → Chain) : (s.updateChain c f).flm = s.flm := rfl
@[simp] theorem State.updateChain_ph (c : Nat) (f : Chain → Chain) : (s.updateChain c f).ph = s.ph := rfl
@[simp] theorem State.updateChain_hft (c : Nat) (f : Chain → Chain) : (s.updateChain c f).hft = s.hft := rfl
@[simp] theorem State.updateChain_wsu (c : Nat) (f : Chain → Chain) : (s.updateChain c f).wsu = s.wsu := rfl
@[simp] theorem State.updateChain_dlp (c : Nat) (f : Chain → Chain) : (s.updateChain c f).dlp = s.dlp := rfl
@[simp] theorem State.updateChain_llp (c : Nat) (f : Chain → Chain) : (s.updateChain c f).llp = s.llp := rfl
@[simp] theorem State.updateChain_evs (c : Nat) (f : Chain → Chain) : (s.updateChain c f).evs = s.evs := rfl
@[simp] theorem State.updateChain_free (c : Nat) (f : Chain → Chain) : (s.updateChain c f).free = s.free := rfl
@[simp] theorem State.updateChain_pending (c : Nat) (f : Chain → Chain) : (s.updateChain c f).pending = s.pending := rfl
theorem State.updateChain_hcu (c : Nat) (f : Chain → Chain) : (s.updateChain c f).hcu =
    { s.hcu with chains := tabSet s.hcu.chains c (f (s.chain c)) } := rfl

@[simp] theorem State.isolate_stu (c : Nat) : (s.isolate c).stu = s.stu := rfl
@[simp] theorem State.isolate_pq (c : Nat) : (s.isolate c).pq = s.pq := rfl
@[simp] theorem State.isolate_ps (c : Nat) : (s.isolate c).ps = s.ps := rfl
@[simp] theorem State.isolate_wct (c : Nat) : (s.isolate c).wct = s.wct := rfl
@[simp] theorem State.isolate_pcm (c : Nat) : (s.isolate c).pcm = s.pcm := rfl
@[simp] theorem State.isolate_flm (c : Nat) : (s.isolate c).flm = s.flm := rfl
@[simp] theorem State.isolate_ph (c : Nat) : (s.isolate c).ph = s.ph := rfl
@[simp] theorem State.isolate_hft (c : Nat) : (s.isolate c).hft = s.hft := rfl
@[simp] theorem State.isolate_wsu (c : Nat) : (s.isolate c).wsu = s.wsu := rfl
@[simp] theorem State.isolate_dlp (c : Nat) : (s.isolate c).dlp = s.dlp := rfl
@[simp] theorem State.isolate_llp (c : Nat) : (s.isolate c).llp = s.llp := rfl
@[simp] theorem State.isolate_free (c : Nat) : (s.isolate c).free = s.free := rfl
@[simp] theorem State.isolate_pending (c : Nat) : (s.isolate c).pending = s.pending := rfl

@[simp] theorem State.shiftAll_stu (w : ShiftWork) (l : Lift) : (s.shiftAll w l).stu = s.stu := rfl
@[simp] theorem State.shiftAll_pq (w : ShiftWork) (l : Lift) : (s.shiftAll w l).pq = s.pq := rfl
@[simp] theorem State.shiftAll_ps (w : ShiftWork) (l : Lift) : (s.shiftAll w l).ps = s.ps := rfl
@[simp] theorem State.shiftAll_wct (w : ShiftWork) (l : Lift) : (s.shiftAll w l).wct = s.wct := rfl
@[simp] theorem State.shiftAll_pcm (w : ShiftWork) (l : Lift) : (s.shiftAll w l).pcm = s.pcm := rfl
@[simp] theorem State.shiftAll_flm (w : ShiftWork) (l : Lift) : (s.shiftAll w l).flm = s.flm := rfl
@[simp] theorem State.shiftAll_ph (w : ShiftWork) (l : Lift) : (s.shiftAll w l).ph = s.ph := rfl
@[simp] theorem State.shiftAll_hft (w : ShiftWork) (l : Lift) : (s.shiftAll w l).hft = s.hft := rfl
@[simp] theorem State.shiftAll_wsu (w : ShiftWork) (l : Lift) : (s.shiftAll w l).wsu = s.wsu := rfl
@[simp] theorem State.shiftAll_dlp (w : ShiftWork) (l : Lift) : (s.shiftAll w l).dlp = s.dlp := rfl
@[simp] theorem State.shiftAll_llp (w : ShiftWork) (l : Lift) : (s.shiftAll w l).llp = s.llp := rfl
@[simp] theorem State.shiftAll_evs (w : ShiftWork) (l : Lift) : (s.shiftAll w l).evs = s.evs := rfl
@[simp] theorem State.shiftAll_free (w : ShiftWork) (l : Lift) : (s.shiftAll w l).free = s.free := rfl
@[simp] theorem State.shiftAll_pending (w : ShiftWork) (l : Lift) : (s.shiftAll w l).pending = s.pending := rfl

@[simp] theorem State.answerProbe_stu (p : Probe) : (s.answerProbe p).stu = s.stu := rfl
@[simp] theorem State.answerProbe_pq (p : Probe) : (s.answerProbe p).pq = s.pq := rfl
@[simp] theorem State.answerProbe_ps (p : Probe) : (s.answerProbe p).ps = s.ps := rfl
@[simp] theorem State.answerProbe_wct (p : Probe) : (s.answerProbe p).wct = s.wct := rfl
@[simp] theorem State.answerProbe_pcm (p : Probe) : (s.answerProbe p).pcm = s.pcm := rfl
@[simp] theorem State.answerProbe_flm (p : Probe) : (s.answerProbe p).flm = s.flm := rfl
@[simp] theorem State.answerProbe_ph (p : Probe) : (s.answerProbe p).ph = s.ph := rfl
@[simp] theorem State.answerProbe_hft (p : Probe) : (s.answerProbe p).hft = s.hft := rfl
@[simp] theorem State.answerProbe_wsu (p : Probe) : (s.answerProbe p).wsu = s.wsu := rfl
@[simp] theorem State.answerProbe_llp (p : Probe) : (s.answerProbe p).llp = s.llp := rfl
@[simp] theorem State.answerProbe_evs (p : Probe) : (s.answerProbe p).evs = s.evs := rfl
@[simp] theorem State.answerProbe_free (p : Probe) : (s.answerProbe p).free = s.free := rfl
@[simp] theorem State.answerProbe_pending (p : Probe) : (s.answerProbe p).pending = s.pending := rfl

@[simp] theorem State.beginPresentation_stu (c : Fin 4) (p : Pick) : (s.beginPresentation c p).stu = s.stu := rfl
@[simp] theorem State.beginPresentation_pq (c : Fin 4) (p : Pick) : (s.beginPresentation c p).pq = s.pq := rfl
@[simp] theorem State.beginPresentation_ps (c : Fin 4) (p : Pick) : (s.beginPresentation c p).ps = s.ps := rfl
@[simp] theorem State.beginPresentation_wct (c : Fin 4) (p : Pick) : (s.beginPresentation c p).wct = s.wct := rfl
@[simp] theorem State.beginPresentation_pcm (c : Fin 4) (p : Pick) : (s.beginPresentation c p).pcm = s.pcm := rfl
@[simp] theorem State.beginPresentation_flm (c : Fin 4) (p : Pick) : (s.beginPresentation c p).flm = s.flm := rfl
@[simp] theorem State.beginPresentation_ph (c : Fin 4) (p : Pick) : (s.beginPresentation c p).ph = s.ph := rfl
@[simp] theorem State.beginPresentation_hft (c : Fin 4) (p : Pick) : (s.beginPresentation c p).hft = s.hft := rfl
@[simp] theorem State.beginPresentation_wsu (c : Fin 4) (p : Pick) : (s.beginPresentation c p).wsu = s.wsu := rfl
@[simp] theorem State.beginPresentation_dlp (c : Fin 4) (p : Pick) : (s.beginPresentation c p).dlp = s.dlp := rfl
@[simp] theorem State.beginPresentation_llp (c : Fin 4) (p : Pick) : (s.beginPresentation c p).llp = s.llp := rfl
@[simp] theorem State.beginPresentation_evs (c : Fin 4) (p : Pick) : (s.beginPresentation c p).evs = s.evs := rfl
@[simp] theorem State.beginPresentation_free (c : Fin 4) (p : Pick) : (s.beginPresentation c p).free = s.free := rfl
@[simp] theorem State.beginPresentation_pending (c : Fin 4) (p : Pick) : (s.beginPresentation c p).pending = s.pending := rfl

@[simp] theorem State.switchWeft_stu (l c : Nat) : (s.switchWeft l c).stu = s.stu := rfl
@[simp] theorem State.switchWeft_pq (l c : Nat) : (s.switchWeft l c).pq = s.pq := rfl
@[simp] theorem State.switchWeft_ps (l c : Nat) : (s.switchWeft l c).ps = s.ps := rfl
@[simp] theorem State.switchWeft_wct (l c : Nat) : (s.switchWeft l c).wct = s.wct := rfl
@[simp] theorem State.switchWeft_pcm (l c : Nat) : (s.switchWeft l c).pcm = s.pcm := rfl
@[simp] theorem State.switchWeft_flm (l c : Nat) : (s.switchWeft l c).flm = s.flm := rfl
@[simp] theorem State.switchWeft_ph (l c : Nat) : (s.switchWeft l c).ph = s.ph := rfl
@[simp] theorem State.switchWeft_hcu (l c : Nat) : (s.switchWeft l c).hcu = s.hcu := rfl
@[simp] theorem State.switchWeft_hft (l c : Nat) : (s.switchWeft l c).hft = s.hft := rfl
@[simp] theorem State.switchWeft_dlp (l c : Nat) : (s.switchWeft l c).dlp = s.dlp := rfl
@[simp] theorem State.switchWeft_llp (l c : Nat) : (s.switchWeft l c).llp = s.llp := rfl
@[simp] theorem State.switchWeft_free (l c : Nat) : (s.switchWeft l c).free = s.free := rfl
@[simp] theorem State.switchWeft_pending (l c : Nat) : (s.switchWeft l c).pending = s.pending := rfl

@[simp] theorem State.stopFinger_stu : (s.stopFinger).stu = s.stu := rfl
@[simp] theorem State.stopFinger_pq : (s.stopFinger).pq = s.pq := rfl
@[simp] theorem State.stopFinger_ps : (s.stopFinger).ps = s.ps := rfl
@[simp] theorem State.stopFinger_wct : (s.stopFinger).wct = s.wct := rfl
@[simp] theorem State.stopFinger_pcm : (s.stopFinger).pcm = s.pcm := rfl
@[simp] theorem State.stopFinger_flm : (s.stopFinger).flm = s.flm := rfl
@[simp] theorem State.stopFinger_ph : (s.stopFinger).ph = s.ph := rfl
@[simp] theorem State.stopFinger_hcu : (s.stopFinger).hcu = s.hcu := rfl
@[simp] theorem State.stopFinger_hft : (s.stopFinger).hft = s.hft := rfl
@[simp] theorem State.stopFinger_dlp : (s.stopFinger).dlp = s.dlp := rfl
@[simp] theorem State.stopFinger_llp : (s.stopFinger).llp = s.llp := rfl
@[simp] theorem State.stopFinger_evs : (s.stopFinger).evs = s.evs := rfl
@[simp] theorem State.stopFinger_free : (s.stopFinger).free = s.free := rfl
@[simp] theorem State.stopFinger_pending : (s.stopFinger).pending = s.pending := rfl

@[simp] theorem State.findFinger_stu : (s.findFinger).stu = s.stu := rfl
@[simp] theorem State.findFinger_pq : (s.findFinger).pq = s.pq := rfl
@[simp] theorem State.findFinger_ps : (s.findFinger).ps = s.ps := rfl
@[simp] theorem State.findFinger_wct : (s.findFinger).wct = s.wct := rfl
@[simp] theorem State.findFinger_pcm : (s.findFinger).pcm = s.pcm := rfl
@[simp] theorem State.findFinger_flm : (s.findFinger).flm = s.flm := rfl
@[simp] theorem State.findFinger_ph : (s.findFinger).ph = s.ph := rfl
@[simp] theorem State.findFinger_hcu : (s.findFinger).hcu = s.hcu := rfl
@[simp] theorem State.findFinger_hft : (s.findFinger).hft = s.hft := rfl
@[simp] theorem State.findFinger_dlp : (s.findFinger).dlp = s.dlp := rfl
@[simp] theorem State.findFinger_llp : (s.findFinger).llp = s.llp := rfl
@[simp] theorem State.findFinger_evs : (s.findFinger).evs = s.evs := rfl
@[simp] theorem State.findFinger_free : (s.findFinger).free = s.free := rfl
@[simp] theorem State.findFinger_pending : (s.findFinger).pending = s.pending := rfl
theorem State.findFinger_wsu : (s.findFinger).wsu =
    { s.wsu with finger := .off, release := none, servedG := none } := rfl

@[simp] theorem State.channelReady_stu (c : Nat) : (s.channelReady c).stu = s.stu := rfl
@[simp] theorem State.channelReady_pq (c : Nat) : (s.channelReady c).pq = s.pq := rfl
@[simp] theorem State.channelReady_ps (c : Nat) : (s.channelReady c).ps = s.ps := rfl
@[simp] theorem State.channelReady_wct (c : Nat) : (s.channelReady c).wct = s.wct := rfl
@[simp] theorem State.channelReady_pcm (c : Nat) : (s.channelReady c).pcm = s.pcm := rfl
@[simp] theorem State.channelReady_flm (c : Nat) : (s.channelReady c).flm = s.flm := rfl
@[simp] theorem State.channelReady_ph (c : Nat) : (s.channelReady c).ph = s.ph := rfl
@[simp] theorem State.channelReady_hcu (c : Nat) : (s.channelReady c).hcu = s.hcu := rfl
@[simp] theorem State.channelReady_hft (c : Nat) : (s.channelReady c).hft = s.hft := rfl
@[simp] theorem State.channelReady_dlp (c : Nat) : (s.channelReady c).dlp = s.dlp := rfl
@[simp] theorem State.channelReady_llp (c : Nat) : (s.channelReady c).llp = s.llp := rfl
@[simp] theorem State.channelReady_evs (c : Nat) : (s.channelReady c).evs = s.evs := rfl
@[simp] theorem State.channelReady_free (c : Nat) : (s.channelReady c).free = s.free := rfl
@[simp] theorem State.channelReady_pending (c : Nat) : (s.channelReady c).pending = s.pending := rfl

@[simp] theorem State.messageTaken_stu : (s.messageTaken).stu = s.stu := rfl
@[simp] theorem State.messageTaken_pq : (s.messageTaken).pq = s.pq := rfl
@[simp] theorem State.messageTaken_ps : (s.messageTaken).ps = s.ps := rfl
@[simp] theorem State.messageTaken_wct : (s.messageTaken).wct = s.wct := rfl
@[simp] theorem State.messageTaken_pcm : (s.messageTaken).pcm = s.pcm := rfl
@[simp] theorem State.messageTaken_flm : (s.messageTaken).flm = s.flm := rfl
@[simp] theorem State.messageTaken_ph : (s.messageTaken).ph = s.ph := rfl
@[simp] theorem State.messageTaken_hcu : (s.messageTaken).hcu = s.hcu := rfl
@[simp] theorem State.messageTaken_hft : (s.messageTaken).hft = s.hft := rfl
@[simp] theorem State.messageTaken_wsu : (s.messageTaken).wsu = s.wsu := rfl
@[simp] theorem State.messageTaken_dlp : (s.messageTaken).dlp = s.dlp := rfl
@[simp] theorem State.messageTaken_evs : (s.messageTaken).evs = s.evs := rfl
@[simp] theorem State.messageTaken_free : (s.messageTaken).free = s.free := rfl
@[simp] theorem State.messageTaken_pending : (s.messageTaken).pending = s.pending := rfl
theorem State.messageTaken_llp : (s.messageTaken).llp =
    { s.llp with received := [] } := rfl

@[simp] theorem State.recordStop_pq (r : LastStop) : (s.recordStop r).pq = s.pq := rfl
@[simp] theorem State.recordStop_ps (r : LastStop) : (s.recordStop r).ps = s.ps := rfl
@[simp] theorem State.recordStop_wct (r : LastStop) : (s.recordStop r).wct = s.wct := rfl
@[simp] theorem State.recordStop_pcm (r : LastStop) : (s.recordStop r).pcm = s.pcm := rfl
@[simp] theorem State.recordStop_flm (r : LastStop) : (s.recordStop r).flm = s.flm := rfl
@[simp] theorem State.recordStop_ph (r : LastStop) : (s.recordStop r).ph = s.ph := rfl
@[simp] theorem State.recordStop_hcu (r : LastStop) : (s.recordStop r).hcu = s.hcu := rfl
@[simp] theorem State.recordStop_hft (r : LastStop) : (s.recordStop r).hft = s.hft := rfl
@[simp] theorem State.recordStop_wsu (r : LastStop) : (s.recordStop r).wsu = s.wsu := rfl
@[simp] theorem State.recordStop_dlp (r : LastStop) : (s.recordStop r).dlp = s.dlp := rfl
@[simp] theorem State.recordStop_llp (r : LastStop) : (s.recordStop r).llp = s.llp := rfl
@[simp] theorem State.recordStop_free (r : LastStop) : (s.recordStop r).free = s.free := rfl
@[simp] theorem State.recordStop_pending (r : LastStop) : (s.recordStop r).pending = s.pending := rfl

@[simp] theorem State.agingPass_stu : (s.agingPass).stu = s.stu := rfl
@[simp] theorem State.agingPass_pq : (s.agingPass).pq = s.pq := rfl
@[simp] theorem State.agingPass_ps : (s.agingPass).ps = s.ps := rfl
@[simp] theorem State.agingPass_wct : (s.agingPass).wct = s.wct := rfl
@[simp] theorem State.agingPass_pcm : (s.agingPass).pcm = s.pcm := rfl
@[simp] theorem State.agingPass_flm : (s.agingPass).flm = s.flm := rfl
@[simp] theorem State.agingPass_ph : (s.agingPass).ph = s.ph := rfl
@[simp] theorem State.agingPass_hcu : (s.agingPass).hcu = s.hcu := rfl
@[simp] theorem State.agingPass_wsu : (s.agingPass).wsu = s.wsu := rfl
@[simp] theorem State.agingPass_dlp : (s.agingPass).dlp = s.dlp := rfl
@[simp] theorem State.agingPass_llp : (s.agingPass).llp = s.llp := rfl
@[simp] theorem State.agingPass_evs : (s.agingPass).evs = s.evs := rfl
@[simp] theorem State.agingPass_free : (s.agingPass).free = s.free := rfl
@[simp] theorem State.agingPass_pending : (s.agingPass).pending = s.pending := rfl
theorem State.agingPass_hft : (s.agingPass).hft =
    { s.hft with agingCounter := 0, entries := s.hft.entries.filterMap FaultEntry.age } := rfl

@[simp] theorem State.missFull_stu : (s.missFull).stu = s.stu := rfl
@[simp] theorem State.missFull_pq : (s.missFull).pq = s.pq := rfl
@[simp] theorem State.missFull_ps : (s.missFull).ps = s.ps := rfl
@[simp] theorem State.missFull_wct : (s.missFull).wct = s.wct := rfl
@[simp] theorem State.missFull_pcm : (s.missFull).pcm = s.pcm := rfl
@[simp] theorem State.missFull_flm : (s.missFull).flm = s.flm := rfl
@[simp] theorem State.missFull_ph : (s.missFull).ph = s.ph := rfl
@[simp] theorem State.missFull_hcu : (s.missFull).hcu = s.hcu := rfl
@[simp] theorem State.missFull_wsu : (s.missFull).wsu = s.wsu := rfl
@[simp] theorem State.missFull_dlp : (s.missFull).dlp = s.dlp := rfl
@[simp] theorem State.missFull_llp : (s.missFull).llp = s.llp := rfl
@[simp] theorem State.missFull_free : (s.missFull).free = s.free := rfl
@[simp] theorem State.missFull_pending : (s.missFull).pending = s.pending := rfl

@[simp] theorem State.levelFloats_stu : (s.levelFloats).stu = s.stu := rfl
@[simp] theorem State.levelFloats_pq : (s.levelFloats).pq = s.pq := rfl
@[simp] theorem State.levelFloats_ps : (s.levelFloats).ps = s.ps := rfl
@[simp] theorem State.levelFloats_wct : (s.levelFloats).wct = s.wct := rfl
@[simp] theorem State.levelFloats_pcm : (s.levelFloats).pcm = s.pcm := rfl
@[simp] theorem State.levelFloats_ph : (s.levelFloats).ph = s.ph := rfl
@[simp] theorem State.levelFloats_hcu : (s.levelFloats).hcu = s.hcu := rfl
@[simp] theorem State.levelFloats_hft : (s.levelFloats).hft = s.hft := rfl
@[simp] theorem State.levelFloats_wsu : (s.levelFloats).wsu = s.wsu := rfl
@[simp] theorem State.levelFloats_dlp : (s.levelFloats).dlp = s.dlp := rfl
@[simp] theorem State.levelFloats_llp : (s.levelFloats).llp = s.llp := rfl
@[simp] theorem State.levelFloats_free : (s.levelFloats).free = s.free := rfl
@[simp] theorem State.levelFloats_pending : (s.levelFloats).pending = s.pending := rfl

@[simp] theorem State.rebuildRuns_stu : (s.rebuildRuns).stu = s.stu := rfl
@[simp] theorem State.rebuildRuns_pq : (s.rebuildRuns).pq = s.pq := rfl
@[simp] theorem State.rebuildRuns_ps : (s.rebuildRuns).ps = s.ps := rfl
@[simp] theorem State.rebuildRuns_wct : (s.rebuildRuns).wct = s.wct := rfl
@[simp] theorem State.rebuildRuns_pcm : (s.rebuildRuns).pcm = s.pcm := rfl
@[simp] theorem State.rebuildRuns_ph : (s.rebuildRuns).ph = s.ph := rfl
@[simp] theorem State.rebuildRuns_hcu : (s.rebuildRuns).hcu = s.hcu := rfl
@[simp] theorem State.rebuildRuns_hft : (s.rebuildRuns).hft = s.hft := rfl
@[simp] theorem State.rebuildRuns_wsu : (s.rebuildRuns).wsu = s.wsu := rfl
@[simp] theorem State.rebuildRuns_dlp : (s.rebuildRuns).dlp = s.dlp := rfl
@[simp] theorem State.rebuildRuns_llp : (s.rebuildRuns).llp = s.llp := rfl
@[simp] theorem State.rebuildRuns_evs : (s.rebuildRuns).evs = s.evs := rfl
@[simp] theorem State.rebuildRuns_free : (s.rebuildRuns).free = s.free := rfl
@[simp] theorem State.rebuildRuns_pending : (s.rebuildRuns).pending = s.pending := rfl
theorem State.rebuildRuns_flm : (s.rebuildRuns).flm =
    { s.flm with runs := rebuiltRuns s.ph s.flm.lwarp } := rfl

@[simp] theorem State.linkError_stu : (s.linkError).stu = s.stu := rfl
@[simp] theorem State.linkError_pq : (s.linkError).pq = s.pq := rfl
@[simp] theorem State.linkError_ps : (s.linkError).ps = s.ps := rfl
@[simp] theorem State.linkError_wct : (s.linkError).wct = s.wct := rfl
@[simp] theorem State.linkError_pcm : (s.linkError).pcm = s.pcm := rfl
@[simp] theorem State.linkError_flm : (s.linkError).flm = s.flm := rfl
@[simp] theorem State.linkError_ph : (s.linkError).ph = s.ph := rfl
@[simp] theorem State.linkError_hcu : (s.linkError).hcu = s.hcu := rfl
@[simp] theorem State.linkError_hft : (s.linkError).hft = s.hft := rfl
@[simp] theorem State.linkError_wsu : (s.linkError).wsu = s.wsu := rfl
@[simp] theorem State.linkError_dlp : (s.linkError).dlp = s.dlp := rfl
@[simp] theorem State.linkError_llp : (s.linkError).llp = s.llp := rfl
@[simp] theorem State.linkError_free : (s.linkError).free = s.free := rfl
@[simp] theorem State.linkError_pending : (s.linkError).pending = s.pending := rfl
theorem State.linkError_evs : (s.linkError).evs =
    { s.evs with link := { s.evs.link with linkErrors := bump s.evs.link.linkErrors } } := rfl

@[simp] theorem State.endComposition_stu (p : Pick) (r : Reads) : (s.endComposition p r).stu = s.stu := rfl
@[simp] theorem State.endComposition_pq (p : Pick) (r : Reads) : (s.endComposition p r).pq = s.pq := rfl
@[simp] theorem State.endComposition_ps (p : Pick) (r : Reads) : (s.endComposition p r).ps = s.ps := rfl
@[simp] theorem State.endComposition_wct (p : Pick) (r : Reads) : (s.endComposition p r).wct = s.wct := rfl
@[simp] theorem State.endComposition_flm (p : Pick) (r : Reads) : (s.endComposition p r).flm = s.flm := rfl
@[simp] theorem State.endComposition_ph (p : Pick) (r : Reads) : (s.endComposition p r).ph = s.ph := rfl
@[simp] theorem State.endComposition_hcu (p : Pick) (r : Reads) : (s.endComposition p r).hcu = s.hcu := rfl
@[simp] theorem State.endComposition_hft (p : Pick) (r : Reads) : (s.endComposition p r).hft = s.hft := rfl
@[simp] theorem State.endComposition_wsu (p : Pick) (r : Reads) : (s.endComposition p r).wsu = s.wsu := rfl
@[simp] theorem State.endComposition_dlp (p : Pick) (r : Reads) : (s.endComposition p r).dlp = s.dlp := rfl
@[simp] theorem State.endComposition_llp (p : Pick) (r : Reads) : (s.endComposition p r).llp = s.llp := rfl
@[simp] theorem State.endComposition_evs (p : Pick) (r : Reads) : (s.endComposition p r).evs = s.evs := rfl
@[simp] theorem State.endComposition_free (p : Pick) (r : Reads) : (s.endComposition p r).free = s.free := rfl
@[simp] theorem State.endComposition_pending (p : Pick) (r : Reads) : (s.endComposition p r).pending = s.pending := rfl

end Sys2Proof.Machine
end

