-- ==== Sys2Proof/Laws/Frames.lean ====
section
/-! SUPPORT. The blocks that each shared operation leaves as they were, one lemma for each operation. -/

namespace Sys2Proof.Machine

variable (s : State)


@[simp] theorem State.send_frame (m : LoomMessage) :
    (s.send m).stu = s.stu ∧ (s.send m).pq = s.pq ∧ (s.send m).ps = s.ps ∧ (s.send m).wct = s.wct ∧ (s.send m).pcm = s.pcm ∧ (s.send m).flm = s.flm ∧ (s.send m).ph = s.ph ∧ (s.send m).hcu = s.hcu ∧ (s.send m).hft = s.hft ∧ (s.send m).wsu = s.wsu ∧ (s.send m).dlp = s.dlp ∧ (s.send m).free = s.free ∧ (s.send m).pending = s.pending := by
  unfold State.send
  repeat' split
  all_goals simp

@[simp] theorem State.sendState_frame (b : Bool) :
    (s.sendState b).stu = s.stu ∧ (s.sendState b).pq = s.pq ∧ (s.sendState b).ps = s.ps ∧ (s.sendState b).wct = s.wct ∧ (s.sendState b).pcm = s.pcm ∧ (s.sendState b).flm = s.flm ∧ (s.sendState b).ph = s.ph ∧ (s.sendState b).hcu = s.hcu ∧ (s.sendState b).hft = s.hft ∧ (s.sendState b).wsu = s.wsu ∧ (s.sendState b).dlp = s.dlp ∧ (s.sendState b).free = s.free ∧ (s.sendState b).pending = s.pending := by
  unfold State.sendState; simp

@[simp] theorem State.requestStop_frame (c : Cause) :
    (s.requestStop c).stu = s.stu ∧ (s.requestStop c).pq = s.pq ∧ (s.requestStop c).ps = s.ps ∧ (s.requestStop c).wct = s.wct ∧ (s.requestStop c).pcm = s.pcm ∧ (s.requestStop c).flm = s.flm ∧ (s.requestStop c).ph = s.ph ∧ (s.requestStop c).hcu = s.hcu ∧ (s.requestStop c).hft = s.hft ∧ (s.requestStop c).wsu = s.wsu ∧ (s.requestStop c).dlp = s.dlp ∧ (s.requestStop c).free = s.free ∧ (s.requestStop c).pending = s.pending := by
  unfold State.requestStop; simp

@[simp] theorem State.refuseMessage_frame (k : Byte) (r : Reason) :
    (s.refuseMessage k r).stu = s.stu ∧ (s.refuseMessage k r).pq = s.pq ∧ (s.refuseMessage k r).ps = s.ps ∧ (s.refuseMessage k r).wct = s.wct ∧ (s.refuseMessage k r).pcm = s.pcm ∧ (s.refuseMessage k r).flm = s.flm ∧ (s.refuseMessage k r).ph = s.ph ∧ (s.refuseMessage k r).hcu = s.hcu ∧ (s.refuseMessage k r).hft = s.hft ∧ (s.refuseMessage k r).wsu = s.wsu ∧ (s.refuseMessage k r).dlp = s.dlp ∧ (s.refuseMessage k r).free = s.free ∧ (s.refuseMessage k r).pending = s.pending := by
  unfold State.refuseMessage; simp

@[simp] theorem State.unknownMessage_frame (k : Byte) :
    (s.unknownMessage k).stu = s.stu ∧ (s.unknownMessage k).pq = s.pq ∧ (s.unknownMessage k).ps = s.ps ∧ (s.unknownMessage k).wct = s.wct ∧ (s.unknownMessage k).pcm = s.pcm ∧ (s.unknownMessage k).flm = s.flm ∧ (s.unknownMessage k).ph = s.ph ∧ (s.unknownMessage k).hcu = s.hcu ∧ (s.unknownMessage k).hft = s.hft ∧ (s.unknownMessage k).wsu = s.wsu ∧ (s.unknownMessage k).dlp = s.dlp ∧ (s.unknownMessage k).free = s.free ∧ (s.unknownMessage k).pending = s.pending := by
  unfold State.unknownMessage; simp

@[simp] theorem State.settleWait_frame :
    (s.settleWait).pq = s.pq ∧ (s.settleWait).ps = s.ps ∧ (s.settleWait).wct = s.wct ∧ (s.settleWait).pcm = s.pcm ∧ (s.settleWait).flm = s.flm ∧ (s.settleWait).ph = s.ph ∧ (s.settleWait).hcu = s.hcu ∧ (s.settleWait).hft = s.hft ∧ (s.settleWait).wsu = s.wsu ∧ (s.settleWait).llp = s.llp ∧ (s.settleWait).evs = s.evs ∧ (s.settleWait).free = s.free ∧ (s.settleWait).pending = s.pending := by
  unfold State.settleWait
  repeat' split
  all_goals simp

@[simp] theorem State.occur_frame (x : SyncSource) :
    (s.occur x).pq = s.pq ∧ (s.occur x).ps = s.ps ∧ (s.occur x).wct = s.wct ∧ (s.occur x).pcm = s.pcm ∧ (s.occur x).flm = s.flm ∧ (s.occur x).ph = s.ph ∧ (s.occur x).hcu = s.hcu ∧ (s.occur x).hft = s.hft ∧ (s.occur x).wsu = s.wsu ∧ (s.occur x).llp = s.llp ∧ (s.occur x).evs = s.evs ∧ (s.occur x).free = s.free ∧ (s.occur x).pending = s.pending := by
  unfold State.occur; simp

@[simp] theorem State.failWait_frame (d : Detail) :
    (s.failWait d).pq = s.pq ∧ (s.failWait d).ps = s.ps ∧ (s.failWait d).wct = s.wct ∧ (s.failWait d).pcm = s.pcm ∧ (s.failWait d).flm = s.flm ∧ (s.failWait d).ph = s.ph ∧ (s.failWait d).hcu = s.hcu ∧ (s.failWait d).hft = s.hft ∧ (s.failWait d).wsu = s.wsu ∧ (s.failWait d).llp = s.llp ∧ (s.failWait d).evs = s.evs ∧ (s.failWait d).free = s.free ∧ (s.failWait d).pending = s.pending := by
  unfold State.failWait
  repeat' split
  all_goals simp

@[simp] theorem State.checkWatermark_frame :
    (s.checkWatermark).pq = s.pq ∧ (s.checkWatermark).ps = s.ps ∧ (s.checkWatermark).wct = s.wct ∧ (s.checkWatermark).pcm = s.pcm ∧ (s.checkWatermark).flm = s.flm ∧ (s.checkWatermark).ph = s.ph ∧ (s.checkWatermark).hcu = s.hcu ∧ (s.checkWatermark).hft = s.hft ∧ (s.checkWatermark).wsu = s.wsu ∧ (s.checkWatermark).llp = s.llp ∧ (s.checkWatermark).free = s.free ∧ (s.checkWatermark).pending = s.pending := by
  unfold State.checkWatermark
  repeat' split
  all_goals simp

@[simp] theorem State.openStep_frame (r : StepRec) :
    (s.openStep r).ps = s.ps ∧ (s.openStep r).wct = s.wct ∧ (s.openStep r).pcm = s.pcm ∧ (s.openStep r).flm = s.flm ∧ (s.openStep r).ph = s.ph ∧ (s.openStep r).hcu = s.hcu ∧ (s.openStep r).hft = s.hft ∧ (s.openStep r).wsu = s.wsu ∧ (s.openStep r).llp = s.llp ∧ (s.openStep r).free = s.free ∧ (s.openStep r).pending = s.pending := by
  unfold State.openStep; simp

@[simp] theorem State.enterStep_frame (q : BitVec 16) :
    (s.enterStep q).ps = s.ps ∧ (s.enterStep q).wct = s.wct ∧ (s.enterStep q).pcm = s.pcm ∧ (s.enterStep q).flm = s.flm ∧ (s.enterStep q).ph = s.ph ∧ (s.enterStep q).hcu = s.hcu ∧ (s.enterStep q).hft = s.hft ∧ (s.enterStep q).wsu = s.wsu ∧ (s.enterStep q).llp = s.llp ∧ (s.enterStep q).free = s.free ∧ (s.enterStep q).pending = s.pending := by
  unfold State.enterStep
  repeat' split
  all_goals simp

@[simp] theorem State.returnStep_frame (q : BitVec 16) :
    (s.returnStep q).stu = s.stu ∧ (s.returnStep q).ps = s.ps ∧ (s.returnStep q).wct = s.wct ∧ (s.returnStep q).pcm = s.pcm ∧ (s.returnStep q).flm = s.flm ∧ (s.returnStep q).ph = s.ph ∧ (s.returnStep q).hcu = s.hcu ∧ (s.returnStep q).hft = s.hft ∧ (s.returnStep q).wsu = s.wsu ∧ (s.returnStep q).dlp = s.dlp ∧ (s.returnStep q).llp = s.llp ∧ (s.returnStep q).evs = s.evs ∧ (s.returnStep q).free = s.free ∧ (s.returnStep q).pending = s.pending := by
  unfold State.returnStep
  repeat' split
  all_goals simp

@[simp] theorem State.closeStep_frame (q : BitVec 16) :
    (s.closeStep q).ps = s.ps ∧ (s.closeStep q).wct = s.wct ∧ (s.closeStep q).pcm = s.pcm ∧ (s.closeStep q).flm = s.flm ∧ (s.closeStep q).ph = s.ph ∧ (s.closeStep q).hcu = s.hcu ∧ (s.closeStep q).hft = s.hft ∧ (s.closeStep q).wsu = s.wsu ∧ (s.closeStep q).llp = s.llp ∧ (s.closeStep q).free = s.free ∧ (s.closeStep q).pending = s.pending := by
  unfold State.closeStep
  repeat' split
  all_goals simp

@[simp] theorem State.dropReported_frame (q : BitVec 16) :
    (s.dropReported q).stu = s.stu ∧ (s.dropReported q).ps = s.ps ∧ (s.dropReported q).wct = s.wct ∧ (s.dropReported q).pcm = s.pcm ∧ (s.dropReported q).flm = s.flm ∧ (s.dropReported q).ph = s.ph ∧ (s.dropReported q).hcu = s.hcu ∧ (s.dropReported q).hft = s.hft ∧ (s.dropReported q).wsu = s.wsu ∧ (s.dropReported q).dlp = s.dlp ∧ (s.dropReported q).llp = s.llp ∧ (s.dropReported q).evs = s.evs ∧ (s.dropReported q).free = s.free ∧ (s.dropReported q).pending = s.pending := by
  unfold State.dropReported
  repeat' split
  all_goals simp

@[simp] theorem State.resolve_frame (l : Nat) :
    ((s.resolve l).2).stu = s.stu ∧ ((s.resolve l).2).pq = s.pq ∧ ((s.resolve l).2).ps = s.ps ∧ ((s.resolve l).2).wct = s.wct ∧ ((s.resolve l).2).pcm = s.pcm ∧ ((s.resolve l).2).flm = s.flm ∧ ((s.resolve l).2).ph = s.ph ∧ ((s.resolve l).2).hcu = s.hcu ∧ ((s.resolve l).2).hft = s.hft ∧ ((s.resolve l).2).dlp = s.dlp ∧ ((s.resolve l).2).llp = s.llp ∧ ((s.resolve l).2).free = s.free ∧ ((s.resolve l).2).pending = s.pending := by
  unfold State.resolve; dsimp only
  repeat' split
  all_goals simp

@[simp] theorem State.writeChannel_frame (d : Due) (c : Nat) :
    (s.writeChannel d c).stu = s.stu ∧ (s.writeChannel d c).pq = s.pq ∧ (s.writeChannel d c).ps = s.ps ∧ (s.writeChannel d c).wct = s.wct ∧ (s.writeChannel d c).flm = s.flm ∧ (s.writeChannel d c).hcu = s.hcu ∧ (s.writeChannel d c).hft = s.hft ∧ (s.writeChannel d c).wsu = s.wsu ∧ (s.writeChannel d c).dlp = s.dlp ∧ (s.writeChannel d c).llp = s.llp ∧ (s.writeChannel d c).evs = s.evs ∧ (s.writeChannel d c).free = s.free ∧ (s.writeChannel d c).pending = s.pending := by
  unfold State.writeChannel
  repeat' split
  all_goals simp

@[simp] theorem State.releaseFinger_frame :
    (s.releaseFinger).stu = s.stu ∧ (s.releaseFinger).pq = s.pq ∧ (s.releaseFinger).ps = s.ps ∧ (s.releaseFinger).wct = s.wct ∧ (s.releaseFinger).pcm = s.pcm ∧ (s.releaseFinger).flm = s.flm ∧ (s.releaseFinger).ph = s.ph ∧ (s.releaseFinger).hcu = s.hcu ∧ (s.releaseFinger).hft = s.hft ∧ (s.releaseFinger).dlp = s.dlp ∧ (s.releaseFinger).llp = s.llp ∧ (s.releaseFinger).evs = s.evs ∧ (s.releaseFinger).free = s.free ∧ (s.releaseFinger).pending = s.pending := by
  unfold State.releaseFinger
  repeat' split
  all_goals simp

@[simp] theorem State.engageFor_frame (d : Due) (c : Nat) :
    (s.engageFor d c).stu = s.stu ∧ (s.engageFor d c).pq = s.pq ∧ (s.engageFor d c).ps = s.ps ∧ (s.engageFor d c).wct = s.wct ∧ (s.engageFor d c).flm = s.flm ∧ (s.engageFor d c).hcu = s.hcu ∧ (s.engageFor d c).hft = s.hft ∧ (s.engageFor d c).dlp = s.dlp ∧ (s.engageFor d c).llp = s.llp ∧ (s.engageFor d c).evs = s.evs ∧ (s.engageFor d c).free = s.free ∧ (s.engageFor d c).pending = s.pending := by
  unfold State.engageFor; simp

@[simp] theorem State.engage_frame :
    (s.engage).stu = s.stu ∧ (s.engage).pq = s.pq ∧ (s.engage).ps = s.ps ∧ (s.engage).wct = s.wct ∧ (s.engage).flm = s.flm ∧ (s.engage).hcu = s.hcu ∧ (s.engage).hft = s.hft ∧ (s.engage).dlp = s.dlp ∧ (s.engage).llp = s.llp ∧ (s.engage).free = s.free ∧ (s.engage).pending = s.pending := by
  unfold State.engage; dsimp only
  repeat' split
  all_goals simp

@[simp] theorem State.waitFor_frame (c : Nat) :
    (s.waitFor c).stu = s.stu ∧ (s.waitFor c).pq = s.pq ∧ (s.waitFor c).ps = s.ps ∧ (s.waitFor c).wct = s.wct ∧ (s.waitFor c).flm = s.flm ∧ (s.waitFor c).hcu = s.hcu ∧ (s.waitFor c).hft = s.hft ∧ (s.waitFor c).dlp = s.dlp ∧ (s.waitFor c).llp = s.llp ∧ (s.waitFor c).free = s.free ∧ (s.waitFor c).pending = s.pending := by
  unfold State.waitFor; dsimp only
  repeat' split
  all_goals simp

@[simp] theorem State.weftRelease_frame :
    (s.weftRelease).stu = s.stu ∧ (s.weftRelease).pq = s.pq ∧ (s.weftRelease).ps = s.ps ∧ (s.weftRelease).wct = s.wct ∧ (s.weftRelease).pcm = s.pcm ∧ (s.weftRelease).flm = s.flm ∧ (s.weftRelease).ph = s.ph ∧ (s.weftRelease).hcu = s.hcu ∧ (s.weftRelease).hft = s.hft ∧ (s.weftRelease).dlp = s.dlp ∧ (s.weftRelease).llp = s.llp ∧ (s.weftRelease).free = s.free ∧ (s.weftRelease).pending = s.pending := by
  unfold State.weftRelease; dsimp only
  repeat' split
  all_goals simp

@[simp] theorem State.weftSelect_frame :
    (s.weftSelect).stu = s.stu ∧ (s.weftSelect).pq = s.pq ∧ (s.weftSelect).ps = s.ps ∧ (s.weftSelect).wct = s.wct ∧ (s.weftSelect).flm = s.flm ∧ (s.weftSelect).hcu = s.hcu ∧ (s.weftSelect).hft = s.hft ∧ (s.weftSelect).dlp = s.dlp ∧ (s.weftSelect).llp = s.llp ∧ (s.weftSelect).free = s.free ∧ (s.weftSelect).pending = s.pending := by
  unfold State.weftSelect; dsimp only
  repeat' split
  all_goals simp

@[simp] theorem State.countRelease_frame :
    (s.countRelease).stu = s.stu ∧ (s.countRelease).pq = s.pq ∧ (s.countRelease).ps = s.ps ∧ (s.countRelease).wct = s.wct ∧ (s.countRelease).pcm = s.pcm ∧ (s.countRelease).flm = s.flm ∧ (s.countRelease).ph = s.ph ∧ (s.countRelease).hcu = s.hcu ∧ (s.countRelease).hft = s.hft ∧ (s.countRelease).dlp = s.dlp ∧ (s.countRelease).llp = s.llp ∧ (s.countRelease).evs = s.evs ∧ (s.countRelease).free = s.free ∧ (s.countRelease).pending = s.pending := by
  unfold State.countRelease
  repeat' split
  all_goals simp

@[simp] theorem State.markCarried_frame :
    (s.markCarried).stu = s.stu ∧ (s.markCarried).pq = s.pq ∧ (s.markCarried).ps = s.ps ∧ (s.markCarried).wct = s.wct ∧ (s.markCarried).pcm = s.pcm ∧ (s.markCarried).flm = s.flm ∧ (s.markCarried).ph = s.ph ∧ (s.markCarried).hcu = s.hcu ∧ (s.markCarried).hft = s.hft ∧ (s.markCarried).dlp = s.dlp ∧ (s.markCarried).llp = s.llp ∧ (s.markCarried).evs = s.evs ∧ (s.markCarried).free = s.free ∧ (s.markCarried).pending = s.pending := by
  unfold State.markCarried; dsimp only
  repeat' split
  all_goals simp

@[simp] theorem State.carryEngagement_frame :
    (s.carryEngagement).stu = s.stu ∧ (s.carryEngagement).pq = s.pq ∧ (s.carryEngagement).ps = s.ps ∧ (s.carryEngagement).wct = s.wct ∧ (s.carryEngagement).flm = s.flm ∧ (s.carryEngagement).hcu = s.hcu ∧ (s.carryEngagement).hft = s.hft ∧ (s.carryEngagement).dlp = s.dlp ∧ (s.carryEngagement).free = s.free ∧ (s.carryEngagement).pending = s.pending := by
  unfold State.carryEngagement; dsimp only
  repeat' split
  all_goals simp

@[simp] theorem State.countSelect_frame :
    s.countSelect.pq = s.pq ∧ s.countSelect.ps = s.ps ∧ s.countSelect.wct = s.wct ∧ s.countSelect.pcm = s.pcm ∧ s.countSelect.flm = s.flm ∧ s.countSelect.ph = s.ph ∧ s.countSelect.hcu = s.hcu ∧ s.countSelect.hft = s.hft ∧ s.countSelect.wsu = s.wsu ∧ s.countSelect.dlp = s.dlp ∧ s.countSelect.llp = s.llp ∧ s.countSelect.evs = s.evs ∧ s.countSelect.free = s.free ∧ s.countSelect.pending = s.pending := by
  unfold State.countSelect; simp

@[simp] theorem State.countSelect_stu : s.countSelect.stu = { s.stu with armed := { s.stu.armed with weftSelect := false } } := rfl

@[simp] theorem State.checkChannel_frame :
    (s.checkChannel).pq = s.pq ∧ (s.checkChannel).ps = s.ps ∧ (s.checkChannel).wct = s.wct ∧ (s.checkChannel).flm = s.flm ∧ (s.checkChannel).hcu = s.hcu ∧ (s.checkChannel).hft = s.hft ∧ (s.checkChannel).dlp = s.dlp ∧ (s.checkChannel).llp = s.llp ∧ (s.checkChannel).free = s.free ∧ (s.checkChannel).pending = s.pending := by
  unfold State.checkChannel; dsimp only
  repeat' split
  all_goals simp

/-- The channel check changes the shaft timing unit by disarming WEFT_SELECT or not at all (R165). -/
theorem State.checkChannel_stu : s.checkChannel.stu = s.stu ∨ s.checkChannel.stu = s.countSelect.stu := by
  unfold State.checkChannel; dsimp only
  repeat' split
  all_goals simp

@[simp] theorem State.runFinger_frame :
    (s.runFinger).stu = s.stu ∧ (s.runFinger).pq = s.pq ∧ (s.runFinger).ps = s.ps ∧ (s.runFinger).wct = s.wct ∧ (s.runFinger).pcm = s.pcm ∧ (s.runFinger).flm = s.flm ∧ (s.runFinger).hcu = s.hcu ∧ (s.runFinger).hft = s.hft ∧ (s.runFinger).dlp = s.dlp ∧ (s.runFinger).llp = s.llp ∧ (s.runFinger).free = s.free ∧ (s.runFinger).pending = s.pending := by
  unfold State.runFinger; dsimp only
  repeat' split
  all_goals simp

@[simp] theorem State.entryOut_frame (c l : Nat) :
    (State.entryOut c s l).stu = s.stu ∧ (State.entryOut c s l).pq = s.pq ∧ (State.entryOut c s l).ps = s.ps ∧ (State.entryOut c s l).wct = s.wct ∧ (State.entryOut c s l).pcm = s.pcm ∧ (State.entryOut c s l).flm = s.flm ∧ (State.entryOut c s l).ph = s.ph ∧ (State.entryOut c s l).hcu = s.hcu ∧ (State.entryOut c s l).hft = s.hft ∧ (State.entryOut c s l).dlp = s.dlp ∧ (State.entryOut c s l).llp = s.llp ∧ (State.entryOut c s l).free = s.free ∧ (State.entryOut c s l).pending = s.pending := by
  unfold State.entryOut; dsimp only
  repeat' split
  all_goals simp

@[simp] theorem State.askStop_frame (h : Nat) :
    (s.askStop h).stu = s.stu ∧ (s.askStop h).pq = s.pq ∧ (s.askStop h).ps = s.ps ∧ (s.askStop h).wct = s.wct ∧ (s.askStop h).pcm = s.pcm ∧ (s.askStop h).flm = s.flm ∧ (s.askStop h).ph = s.ph ∧ (s.askStop h).hcu = s.hcu ∧ (s.askStop h).wsu = s.wsu ∧ (s.askStop h).dlp = s.dlp ∧ (s.askStop h).free = s.free ∧ (s.askStop h).pending = s.pending := by
  unfold State.askStop
  repeat' split
  all_goals simp

@[simp] theorem State.learn_frame (h : Nat) (x : Sense) :
    (s.learn h x).stu = s.stu ∧ (s.learn h x).pq = s.pq ∧ (s.learn h x).ps = s.ps ∧ (s.learn h x).wct = s.wct ∧ (s.learn h x).pcm = s.pcm ∧ (s.learn h x).flm = s.flm ∧ (s.learn h x).ph = s.ph ∧ (s.learn h x).hcu = s.hcu ∧ (s.learn h x).wsu = s.wsu ∧ (s.learn h x).dlp = s.dlp ∧ (s.learn h x).free = s.free ∧ (s.learn h x).pending = s.pending := by
  unfold State.learn; simp

@[simp] theorem State.reportMismatch_frame (r : Nat × Sense) :
    (s.reportMismatch r).stu = s.stu ∧ (s.reportMismatch r).pq = s.pq ∧ (s.reportMismatch r).ps = s.ps ∧ (s.reportMismatch r).wct = s.wct ∧ (s.reportMismatch r).pcm = s.pcm ∧ (s.reportMismatch r).flm = s.flm ∧ (s.reportMismatch r).ph = s.ph ∧ (s.reportMismatch r).hcu = s.hcu ∧ (s.reportMismatch r).wsu = s.wsu ∧ (s.reportMismatch r).dlp = s.dlp ∧ (s.reportMismatch r).free = s.free ∧ (s.reportMismatch r).pending = s.pending := by
  unfold State.reportMismatch
  repeat' split
  all_goals simp

@[simp] theorem State.countAging_frame :
    (s.countAging).stu = s.stu ∧ (s.countAging).pq = s.pq ∧ (s.countAging).ps = s.ps ∧ (s.countAging).wct = s.wct ∧ (s.countAging).pcm = s.pcm ∧ (s.countAging).flm = s.flm ∧ (s.countAging).ph = s.ph ∧ (s.countAging).hcu = s.hcu ∧ (s.countAging).wsu = s.wsu ∧ (s.countAging).dlp = s.dlp ∧ (s.countAging).llp = s.llp ∧ (s.countAging).evs = s.evs ∧ (s.countAging).free = s.free ∧ (s.countAging).pending = s.pending := by
  unfold State.countAging
  repeat' split
  all_goals simp

@[simp] theorem State.latchFloats_frame (p : Pick) (r : Runs) :
    (s.latchFloats p r).stu = s.stu ∧ (s.latchFloats p r).pq = s.pq ∧ (s.latchFloats p r).ps = s.ps ∧ (s.latchFloats p r).wct = s.wct ∧ (s.latchFloats p r).pcm = s.pcm ∧ (s.latchFloats p r).ph = s.ph ∧ (s.latchFloats p r).hcu = s.hcu ∧ (s.latchFloats p r).hft = s.hft ∧ (s.latchFloats p r).wsu = s.wsu ∧ (s.latchFloats p r).dlp = s.dlp ∧ (s.latchFloats p r).llp = s.llp ∧ (s.latchFloats p r).free = s.free ∧ (s.latchFloats p r).pending = s.pending := by
  unfold State.latchFloats
  repeat' split
  all_goals simp

@[simp] theorem State.readAhead_frame (n : Nat) :
    (s.readAhead n).stu = s.stu ∧ (s.readAhead n).pq = s.pq ∧ (s.readAhead n).ps = s.ps ∧ (s.readAhead n).wct = s.wct ∧ (s.readAhead n).flm = s.flm ∧ (s.readAhead n).ph = s.ph ∧ (s.readAhead n).hcu = s.hcu ∧ (s.readAhead n).hft = s.hft ∧ (s.readAhead n).wsu = s.wsu ∧ (s.readAhead n).dlp = s.dlp ∧ (s.readAhead n).llp = s.llp ∧ (s.readAhead n).evs = s.evs ∧ (s.readAhead n).free = s.free ∧ (s.readAhead n).pending = s.pending := by
  unfold State.readAhead
  repeat' split
  all_goals simp

@[simp] theorem State.settleReads_frame (d : Nat) :
    (s.settleReads d).stu = s.stu ∧ (s.settleReads d).pq = s.pq ∧ (s.settleReads d).ps = s.ps ∧ (s.settleReads d).wct = s.wct ∧ (s.settleReads d).flm = s.flm ∧ (s.settleReads d).ph = s.ph ∧ (s.settleReads d).hcu = s.hcu ∧ (s.settleReads d).hft = s.hft ∧ (s.settleReads d).wsu = s.wsu ∧ (s.settleReads d).dlp = s.dlp ∧ (s.settleReads d).llp = s.llp ∧ (s.settleReads d).evs = s.evs ∧ (s.settleReads d).pending = s.pending := by
  unfold State.settleReads
  repeat' split
  all_goals simp

@[simp] theorem State.beginComposition_frame :
    (s.beginComposition).ps = s.ps ∧ (s.beginComposition).wct = s.wct ∧ (s.beginComposition).flm = s.flm ∧ (s.beginComposition).hcu = s.hcu ∧ (s.beginComposition).hft = s.hft ∧ (s.beginComposition).llp = s.llp ∧ (s.beginComposition).free = s.free ∧ (s.beginComposition).pending = s.pending := by
  unfold State.beginComposition; dsimp only
  repeat' split
  all_goals simp

@[simp] theorem State.finishTransfer_frame :
    (s.finishTransfer).stu = s.stu ∧ (s.finishTransfer).pq = s.pq ∧ (s.finishTransfer).ps = s.ps ∧ (s.finishTransfer).wct = s.wct ∧ (s.finishTransfer).flm = s.flm ∧ (s.finishTransfer).ph = s.ph ∧ (s.finishTransfer).hcu = s.hcu ∧ (s.finishTransfer).hft = s.hft ∧ (s.finishTransfer).wsu = s.wsu ∧ (s.finishTransfer).dlp = s.dlp ∧ (s.finishTransfer).llp = s.llp ∧ (s.finishTransfer).evs = s.evs ∧ (s.finishTransfer).free = s.free ∧ (s.finishTransfer).pending = s.pending := by
  unfold State.finishTransfer
  repeat' split
  all_goals simp

@[simp] theorem State.tryTransfer_frame :
    (s.tryTransfer).stu = s.stu ∧ (s.tryTransfer).pq = s.pq ∧ (s.tryTransfer).ps = s.ps ∧ (s.tryTransfer).wct = s.wct ∧ (s.tryTransfer).flm = s.flm ∧ (s.tryTransfer).ph = s.ph ∧ (s.tryTransfer).hft = s.hft ∧ (s.tryTransfer).wsu = s.wsu ∧ (s.tryTransfer).dlp = s.dlp ∧ (s.tryTransfer).llp = s.llp ∧ (s.tryTransfer).evs = s.evs ∧ (s.tryTransfer).free = s.free ∧ (s.tryTransfer).pending = s.pending := by
  unfold State.tryTransfer
  repeat' split
  all_goals simp

@[simp] theorem State.discardStaging_frame :
    (s.discardStaging).stu = s.stu ∧ (s.discardStaging).ps = s.ps ∧ (s.discardStaging).wct = s.wct ∧ (s.discardStaging).flm = s.flm ∧ (s.discardStaging).ph = s.ph ∧ (s.discardStaging).hft = s.hft ∧ (s.discardStaging).wsu = s.wsu ∧ (s.discardStaging).dlp = s.dlp ∧ (s.discardStaging).llp = s.llp ∧ (s.discardStaging).evs = s.evs ∧ (s.discardStaging).free = s.free ∧ (s.discardStaging).pending = s.pending := by
  unfold State.discardStaging
  repeat' split
  all_goals simp

@[simp] theorem State.invalidate_frame :
    (s.invalidate).ps = s.ps ∧ (s.invalidate).wct = s.wct ∧ (s.invalidate).flm = s.flm ∧ (s.invalidate).hft = s.hft ∧ (s.invalidate).llp = s.llp ∧ (s.invalidate).free = s.free ∧ (s.invalidate).pending = s.pending := by
  unfold State.invalidate
  repeat' split
  all_goals simp

@[simp] theorem State.abandonWork_frame :
    (s.abandonWork).stu = s.stu ∧ (s.abandonWork).ps = s.ps ∧ (s.abandonWork).wct = s.wct ∧ (s.abandonWork).flm = s.flm ∧ (s.abandonWork).ph = s.ph ∧ (s.abandonWork).hft = s.hft ∧ (s.abandonWork).wsu = s.wsu ∧ (s.abandonWork).dlp = s.dlp ∧ (s.abandonWork).llp = s.llp ∧ (s.abandonWork).evs = s.evs ∧ (s.abandonWork).free = s.free ∧ (s.abandonWork).pending = s.pending := by
  unfold State.abandonWork
  repeat' split
  all_goals simp

@[simp] theorem State.enterStopped_frame :
    (s.enterStopped).pq = s.pq ∧ (s.enterStopped).ps = s.ps ∧ (s.enterStopped).wct = s.wct ∧ (s.enterStopped).pcm = s.pcm ∧ (s.enterStopped).flm = s.flm ∧ (s.enterStopped).ph = s.ph ∧ (s.enterStopped).hcu = s.hcu ∧ (s.enterStopped).hft = s.hft ∧ (s.enterStopped).wsu = s.wsu ∧ (s.enterStopped).llp = s.llp ∧ (s.enterStopped).free = s.free ∧ (s.enterStopped).pending = s.pending := by
  unfold State.enterStopped; simp

@[simp] theorem State.immediateStop_frame :
    (s.immediateStop).ps = s.ps ∧ (s.immediateStop).wct = s.wct ∧ (s.immediateStop).flm = s.flm ∧ (s.immediateStop).ph = s.ph ∧ (s.immediateStop).hft = s.hft ∧ (s.immediateStop).llp = s.llp ∧ (s.immediateStop).free = s.free ∧ (s.immediateStop).pending = s.pending := by
  unfold State.immediateStop; simp

@[simp] theorem State.synchronousStop_frame :
    (s.synchronousStop).pq = s.pq ∧ (s.synchronousStop).ps = s.ps ∧ (s.synchronousStop).wct = s.wct ∧ (s.synchronousStop).pcm = s.pcm ∧ (s.synchronousStop).flm = s.flm ∧ (s.synchronousStop).ph = s.ph ∧ (s.synchronousStop).hcu = s.hcu ∧ (s.synchronousStop).hft = s.hft ∧ (s.synchronousStop).llp = s.llp ∧ (s.synchronousStop).free = s.free ∧ (s.synchronousStop).pending = s.pending := by
  unfold State.synchronousStop; simp

@[simp] theorem State.hardStop_frame (c : Cause) (b : Bool) :
    (s.hardStop c b).ps = s.ps ∧ (s.hardStop c b).wct = s.wct ∧ (s.hardStop c b).flm = s.flm ∧ (s.hardStop c b).ph = s.ph ∧ (s.hardStop c b).hft = s.hft ∧ (s.hardStop c b).free = s.free ∧ (s.hardStop c b).pending = s.pending := by
  unfold State.hardStop
  repeat' split
  all_goals simp

@[simp] theorem State.applyStop_frame (m : StopMode) :
    (s.applyStop m).ps = s.ps ∧ (s.applyStop m).wct = s.wct ∧ (s.applyStop m).flm = s.flm ∧ (s.applyStop m).ph = s.ph ∧ (s.applyStop m).hft = s.hft ∧ (s.applyStop m).llp = s.llp ∧ (s.applyStop m).free = s.free ∧ (s.applyStop m).pending = s.pending := by
  unfold State.applyStop
  repeat' split
  all_goals simp

@[simp] theorem State.joinRing_frame (p : Pick) :
    (s.joinRing p).stu = s.stu ∧ (s.joinRing p).ps = s.ps ∧ (s.joinRing p).wct = s.wct ∧ (s.joinRing p).pcm = s.pcm ∧ (s.joinRing p).flm = s.flm ∧ (s.joinRing p).hcu = s.hcu ∧ (s.joinRing p).hft = s.hft ∧ (s.joinRing p).wsu = s.wsu ∧ (s.joinRing p).dlp = s.dlp ∧ (s.joinRing p).llp = s.llp ∧ (s.joinRing p).evs = s.evs ∧ (s.joinRing p).free = s.free ∧ (s.joinRing p).pending = s.pending := by
  unfold State.joinRing
  repeat' split
  all_goals simp

@[simp] theorem State.makeWoven_frame (p : Pick) :
    (s.makeWoven p).stu = s.stu ∧ (s.makeWoven p).ps = s.ps ∧ (s.makeWoven p).wct = s.wct ∧ (s.makeWoven p).flm = s.flm ∧ (s.makeWoven p).hcu = s.hcu ∧ (s.makeWoven p).wsu = s.wsu ∧ (s.makeWoven p).dlp = s.dlp ∧ (s.makeWoven p).llp = s.llp ∧ (s.makeWoven p).free = s.free ∧ (s.makeWoven p).pending = s.pending := by
  unfold State.makeWoven; simp

@[simp] theorem State.weaveShed_frame (p : Option Pick) :
    (s.weaveShed p).stu = s.stu ∧ (s.weaveShed p).ps = s.ps ∧ (s.weaveShed p).wct = s.wct ∧ (s.weaveShed p).flm = s.flm ∧ (s.weaveShed p).hcu = s.hcu ∧ (s.weaveShed p).wsu = s.wsu ∧ (s.weaveShed p).dlp = s.dlp ∧ (s.weaveShed p).llp = s.llp ∧ (s.weaveShed p).free = s.free ∧ (s.weaveShed p).pending = s.pending := by
  unfold State.weaveShed
  repeat' split
  all_goals simp

@[simp] theorem State.closeOld_frame (p : Option Pick) :
    (s.closeOld p).ps = s.ps ∧ (s.closeOld p).wct = s.wct ∧ (s.closeOld p).pcm = s.pcm ∧ (s.closeOld p).flm = s.flm ∧ (s.closeOld p).ph = s.ph ∧ (s.closeOld p).hcu = s.hcu ∧ (s.closeOld p).hft = s.hft ∧ (s.closeOld p).wsu = s.wsu ∧ (s.closeOld p).llp = s.llp ∧ (s.closeOld p).free = s.free ∧ (s.closeOld p).pending = s.pending := by
  unfold State.closeOld
  repeat' split
  all_goals simp

@[simp] theorem State.pickLatch_frame (p : Pick) (r : Runs) :
    (s.pickLatch p r).ps = s.ps ∧ (s.pickLatch p r).wct = s.wct ∧ (s.pickLatch p r).wsu = s.wsu ∧ (s.pickLatch p r).llp = s.llp ∧ (s.pickLatch p r).free = s.free ∧ (s.pickLatch p r).pending = s.pending := by
  unfold State.pickLatch; simp

@[simp] theorem State.levelShed_frame :
    (s.levelShed).ps = s.ps ∧ (s.levelShed).wct = s.wct ∧ (s.levelShed).free = s.free ∧ (s.levelShed).pending = s.pending := by
  unfold State.levelShed; simp

@[simp] theorem State.answerRepresentation_frame (r : Representation) :
    (s.answerRepresentation r).ps = s.ps ∧ (s.answerRepresentation r).wct = s.wct ∧ (s.answerRepresentation r).flm = s.flm ∧ (s.answerRepresentation r).ph = s.ph ∧ (s.answerRepresentation r).hft = s.hft ∧ (s.answerRepresentation r).free = s.free ∧ (s.answerRepresentation r).pending = s.pending := by
  unfold State.answerRepresentation
  repeat' split
  all_goals simp

@[simp] theorem State.finishRepresentation_frame :
    (s.finishRepresentation).ps = s.ps ∧ (s.finishRepresentation).wct = s.wct ∧ (s.finishRepresentation).flm = s.flm ∧ (s.finishRepresentation).hft = s.hft ∧ (s.finishRepresentation).free = s.free ∧ (s.finishRepresentation).pending = s.pending := by
  unfold State.finishRepresentation
  repeat' split
  all_goals simp

@[simp] theorem State.beginRepresentation_frame (p : Pick) :
    (s.beginRepresentation p).ps = s.ps ∧ (s.beginRepresentation p).wct = s.wct ∧ (s.beginRepresentation p).flm = s.flm ∧ (s.beginRepresentation p).hft = s.hft ∧ (s.beginRepresentation p).free = s.free ∧ (s.beginRepresentation p).pending = s.pending := by
  unfold State.beginRepresentation; simp

@[simp] theorem State.slipIf_frame (b : Bool) :
    (s.slipIf b).stu = s.stu ∧ (s.slipIf b).pq = s.pq ∧ (s.slipIf b).ps = s.ps ∧ (s.slipIf b).wct = s.wct ∧ (s.slipIf b).pcm = s.pcm ∧ (s.slipIf b).flm = s.flm ∧ (s.slipIf b).ph = s.ph ∧ (s.slipIf b).hcu = s.hcu ∧ (s.slipIf b).hft = s.hft ∧ (s.slipIf b).wsu = s.wsu ∧ (s.slipIf b).dlp = s.dlp ∧ (s.slipIf b).llp = s.llp ∧ (s.slipIf b).free = s.free ∧ (s.slipIf b).pending = s.pending := by
  unfold State.slipIf
  repeat' split
  all_goals simp

@[simp] theorem State.swapAngles_frame :
    (s.swapAngles).pq = s.pq ∧ (s.swapAngles).ps = s.ps ∧ (s.swapAngles).wct = s.wct ∧ (s.swapAngles).pcm = s.pcm ∧ (s.swapAngles).flm = s.flm ∧ (s.swapAngles).ph = s.ph ∧ (s.swapAngles).hcu = s.hcu ∧ (s.swapAngles).hft = s.hft ∧ (s.swapAngles).wsu = s.wsu ∧ (s.swapAngles).dlp = s.dlp ∧ (s.swapAngles).llp = s.llp ∧ (s.swapAngles).free = s.free ∧ (s.swapAngles).pending = s.pending := by
  unfold State.swapAngles
  repeat' split
  all_goals simp

@[simp] theorem State.indexForward_frame :
    (s.indexForward).pq = s.pq ∧ (s.indexForward).ps = s.ps ∧ (s.indexForward).wct = s.wct ∧ (s.indexForward).pcm = s.pcm ∧ (s.indexForward).flm = s.flm ∧ (s.indexForward).ph = s.ph ∧ (s.indexForward).hcu = s.hcu ∧ (s.indexForward).hft = s.hft ∧ (s.indexForward).wsu = s.wsu ∧ (s.indexForward).llp = s.llp ∧ (s.indexForward).free = s.free ∧ (s.indexForward).pending = s.pending := by
  unfold State.indexForward; simp

@[simp] theorem State.engageDue_frame :
    (s.engageDue).stu = s.stu ∧ (s.engageDue).pq = s.pq ∧ (s.engageDue).ps = s.ps ∧ (s.engageDue).wct = s.wct ∧ (s.engageDue).flm = s.flm ∧ (s.engageDue).hcu = s.hcu ∧ (s.engageDue).hft = s.hft ∧ (s.engageDue).dlp = s.dlp ∧ (s.engageDue).llp = s.llp ∧ (s.engageDue).free = s.free ∧ (s.engageDue).pending = s.pending := by
  unfold State.engageDue
  repeat' split
  all_goals simp

@[simp] theorem State.compose_frame :
    (s.compose).ps = s.ps ∧ (s.compose).wct = s.wct ∧ (s.compose).flm = s.flm ∧ (s.compose).hcu = s.hcu ∧ (s.compose).hft = s.hft ∧ (s.compose).llp = s.llp ∧ (s.compose).free = s.free ∧ (s.compose).pending = s.pending := by
  unfold State.compose
  repeat' split
  all_goals simp

@[simp] theorem State.transfer_frame :
    (s.transfer).stu = s.stu ∧ (s.transfer).pq = s.pq ∧ (s.transfer).ps = s.ps ∧ (s.transfer).wct = s.wct ∧ (s.transfer).flm = s.flm ∧ (s.transfer).ph = s.ph ∧ (s.transfer).hft = s.hft ∧ (s.transfer).wsu = s.wsu ∧ (s.transfer).dlp = s.dlp ∧ (s.transfer).llp = s.llp ∧ (s.transfer).evs = s.evs ∧ (s.transfer).free = s.free ∧ (s.transfer).pending = s.pending := by
  unfold State.transfer; simp

@[simp] theorem State.readResponse_frame (n : Nat) :
    (s.readResponse n).stu = s.stu ∧ (s.readResponse n).pq = s.pq ∧ (s.readResponse n).ps = s.ps ∧ (s.readResponse n).wct = s.wct ∧ (s.readResponse n).pcm = s.pcm ∧ (s.readResponse n).flm = s.flm ∧ (s.readResponse n).ph = s.ph ∧ (s.readResponse n).hcu = s.hcu ∧ (s.readResponse n).hft = s.hft ∧ (s.readResponse n).wsu = s.wsu ∧ (s.readResponse n).llp = s.llp ∧ (s.readResponse n).free = s.free ∧ (s.readResponse n).pending = s.pending := by
  unfold State.readResponse
  repeat' split
  all_goals simp

end Sys2Proof.Machine
end

