-- ==== Sys2Proof/Laws/Links.lean ====
section
/-! SUPPORT. What taking a design link command, sending a message, occurring sources and ending waits can do; fields of frames read back. -/

namespace Sys2Proof.Machine

/-- Every design link command is taken by its owner through `takeCommand`. -/
theorem exec_command {c : Instr} {owner : State → Taken} (h : ownerOf c = some owner) (s : State) :
    exec c s = .next (s.takeCommand c owner) := by
  cases c <;> simp only [ownerOf, Option.some.injEq, reduceCtorEq] at h <;> subst h <;> rfl

/-- A row is a design link command exactly when it has a code, and exactly when it has an owner. -/
theorem commandCode_isSome (c : Instr) : (commandCode c).isSome = (ownerOf c).isSome := by
  cases c <;> rfl

/-- While BUSY a command is discarded and counted. -/
theorem takeCommand_busy {s : State} (c : Instr) (owner : State → Taken) (h : s.busy = true) :
    s.takeCommand c owner = s.discardBracket (frameOf c).length := by simp [State.takeCommand, h]

/-- With BUSY low a command is taken: an answer leaves BUSY low and the response pending, no answer leaves what the owner left. -/
theorem takeCommand_free {s : State} (c : Instr) (owner : State → Taken) (h : s.busy = false) :
    s.takeCommand c owner =
      match (owner (s.frameIn (frameOf c))).reply with
      | some r => (owner (s.frameIn (frameOf c))).state.answer (codeOf c) r.outcome r.detail r.payload
      | none => (owner (s.frameIn (frameOf c))).state := by
  simp only [State.takeCommand, h, Bool.false_eq_true, if_false, codeOf]
  rfl

/-- With BUSY low no work goes on. -/
theorem busy_eq_false (s : State) : s.busy = false ↔ s.dlp.work = none := by
  simp [State.busy, Option.isSome_eq_false_iff]

/-- A refusal in answer to a command. -/
theorem refuses_of_refuse {c : Instr} {owner : State → Taken} {s : State} {why : Detail} (ho : ownerOf c = some owner)
    (hb : s.busy = false) (h : owner (s.frameIn (frameOf c)) = .refuse why (s.frameIn (frameOf c))) : Refuses c s why := by
  rw [Refuses, exec_command ho, takeCommand_free c owner hb, h]
  rfl

/-- An acceptance in answer to a command whose owner left `t`. -/
theorem accepts_of_reply {c : Instr} {owner : State → Taken} {s t : State} {d : Detail} {p : List Byte} (ho : ownerOf c = some owner)
    (hb : s.busy = false) (h : owner (s.frameIn (frameOf c)) = ⟨t.frameIn (frameOf c), some ⟨.accept, d, p⟩⟩) :
    Accepts c s d p t := by
  rw [Accepts, exec_command ho, takeCommand_free c owner hb, h]
  rfl

/-- A message joins a queue with room; a full queue drops and counts it. -/
theorem send_room {s : State} (m : LoomMessage) (h : s.llp.queue.length < 16) :
    s.send m = { s with llp.queue := s.llp.queue ++ [m] } := by
  simp [State.send, Config.txCapacity, h]

/-- A full queue drops a message and counts it. -/
theorem send_full {s : State} (m : LoomMessage) (h : 16 ≤ s.llp.queue.length) :
    s.send m = { s with evs.link.llTxDropped := bump s.evs.link.llTxDropped } := by
  simp [State.send, Config.txCapacity, Nat.not_lt.2 h]

/-- A message keeps the queue within its capacity. -/
theorem send_queue_length {s : State} (m : LoomMessage) (h : s.llp.queue.length ≤ 16) : (s.send m).llp.queue.length ≤ 16 := by
  by_cases hr : s.llp.queue.length < 16
  · rw [send_room m hr]; simp; omega
  · rw [send_full m (by omega)]; exact h

/-- With no wait pending a source only sets its flags. -/
theorem occur_of_no_wait {s : State} (x : SyncSource) (h : s.stu.wait = none) : s.occur x = s.setSources x := by
  simp [State.occur, State.settleWait, State.setSources, h]

/-- With no wait pending the end of a wait finds none. -/
theorem failWait_of_no_wait {s : State} (d : Detail) (h : s.stu.wait = none) : s.failWait d = s := by
  simp [State.failWait, h]

/-- A 2-byte field read back. -/
theorem word16_bytes16 (x : BitVec 16) : word16 (x.extractLsb' 8 8) (x.extractLsb' 0 8) = x := by
  apply BitVec.eq_of_getLsbD_eq
  intro i hi
  show (x.extractLsb' 8 8 ++ x.extractLsb' 0 8 : BitVec (8 + 8)).getLsbD i = _
  rw [BitVec.getLsbD_append]
  by_cases h : i < 8
  · simp [h]
  · simp [h]
    rw [show 8 + (i - 8) = i by omega]
    simp [show i - 8 < 8 by omega]

/-- The bytes of a 2-byte field. -/
theorem bytes16_length (x : BitVec 16) : (bytes16 x).length = 2 := rfl

/-- The bytes of a 4-byte field. -/
theorem bytes32_length (x : BitVec 32) : (bytes32 x).length = 4 := rfl

end Sys2Proof.Machine
end

