-- ==== Sys2Proof/Laws/Staging.lean ====
section
/-! SUPPORT. The staging record: what its discard and its invalidation do, in the words of the statements. -/

namespace Sys2Proof.Machine

/-- Discarding the staging record does what the statements say of it (R79, R94, R40). -/
theorem State.discardStaging_eq_discarded (s : State) : s.discardStaging = s.discarded := by
  cases h : s.pcm.staging with
  | none => simp [State.discardStaging, State.discarded, h]
  | some st =>
    have chains : tabMap (fun _ c => c.dropTransfer) s.hcu.chains =
        s.hcu.chains.map fun c => if c.shift.any fun x => x.work = .transfer then { c with shift := none } else c := by
      ext i hi
      simp [tabMap, Chain.dropTransfer]
    have other : (s.ph.shed.all fun p => decide (p.seq ≠ st.pick.seq)) = !(s.ph.shed.any fun p => decide (p.seq = st.pick.seq)) := by
      cases s.ph.shed <;> simp
    simp only [State.discardStaging, State.discarded, h, chains, other, State.returnStep, State.holdsStep, Option.any_none, Bool.or_false]
    cases s.ph.shed.any fun p => decide (p.seq = st.pick.seq) with
    | true => simp
    | false =>
      simp only [Bool.false_eq_true, if_false, State.updateStep, Bool.not_false, and_true]
      congr 2
      apply List.map_congr_left
      intro x _
      by_cases a : x.seq = st.pick.seq <;> simp [a]

/-- The blocks that the discard of the staging record leaves as they were. -/
@[simp] theorem State.discarded_frame (s : State) :
    s.discarded.stu = s.stu ∧ s.discarded.ps = s.ps ∧ s.discarded.wct = s.wct ∧ s.discarded.flm = s.flm ∧ s.discarded.ph = s.ph ∧
    s.discarded.hft = s.hft ∧ s.discarded.wsu = s.wsu ∧ s.discarded.dlp = s.dlp ∧ s.discarded.llp = s.llp ∧ s.discarded.evs = s.evs ∧
    s.discarded.free = s.free ∧ s.discarded.pending = s.pending := by
  unfold State.discarded
  split <;> simp

/-- With no staging record, or one COMPOSING, the invalidation list changes nothing (R93). -/
theorem State.invalidate_of_early (s : State) (h : ∀ st, s.pcm.staging = some st → ∃ r, st.phase = .composing r) :
    s.invalidate = s := by
  unfold State.invalidate
  split
  · rfl
  · rfl
  · next st composing hs =>
    obtain ⟨r, hr⟩ := h _ hs
    cases st
    subst hr
    exact absurd rfl (composing _ _)

/-- A later record is discarded, and outside RUNNING nothing more is done (R93, R94). -/
theorem State.invalidate_of_late (s : State) (st : Staging) (hs : s.pcm.staging = some st) (late : ∀ r, st.phase ≠ .composing r)
    (still : s.stu.weaving ≠ .running) : s.invalidate = s.discarded := by
  unfold State.invalidate
  split
  · next h => rw [h] at hs; cases hs
  · next h => rw [h] at hs; cases hs; exact absurd rfl (late _)
  · simp [still, State.discardStaging_eq_discarded]

end Sys2Proof.Machine
end

