-- ==== Sys2Proof/Laws/Tables.lean ====
section
/-! SUPPORT. Tables of fixed length after an entry is set or every entry is mapped; the fault table after an entry is put into it. -/

namespace Sys2Proof

/-- Entry `j` of a table with entry `i` replaced. -/
theorem tabGet_tabSet {α : Type} {n : Nat} (v : Vector α n) (i j : Nat) (x d : α) :
    tabGet (tabSet v i x) j d = if i = j ∧ i < n then x else tabGet v j d := by
  simp only [tabGet, tabSet, Vector.getElem?_setIfInBounds]
  by_cases h : i = j
  · subst h
    by_cases hi : i < n
    · simp [hi]
    · simp [hi]
  · simp [h]

/-- Entry `i` of a mapped table. -/
theorem tabGet_tabMap {α β : Type} {n : Nat} (f : Nat → α → β) (v : Vector α n) (i : Nat) (h : i < n) (d : β) (e : α) :
    tabGet (tabMap f v) i d = f i (tabGet v i e) := by
  simp [tabGet, tabMap, h]

/-- What holds of every entry and of the new one holds of every entry after one is set. -/
theorem forall_mem_tabSet {α : Type} {n : Nat} {p : α → Prop} {v : Vector α n} (i : Nat) {x : α} (h : ∀ y ∈ v.toList, p y) (hx : p x) :
    ∀ y ∈ (tabSet v i x).toList, p y := by
  intro y hy
  rw [Vector.mem_toList_iff, Vector.mem_iff_getElem] at hy
  obtain ⟨j, hj, rfl⟩ := hy
  simp only [tabSet, Vector.getElem_setIfInBounds]
  split
  · exact hx
  · exact h _ (by simp)

/-- What holds of the image of every entry holds of every entry of a mapped table. -/
theorem forall_mem_tabMap {α β : Type} {n : Nat} {p : β → Prop} {v : Vector α n} {f : Nat → α → β}
    (h : ∀ i, ∀ y ∈ v.toList, p (f i y)) : ∀ y ∈ (tabMap f v).toList, p y := by
  intro y hy
  simp only [tabMap, Vector.toList_mk, List.mem_map] at hy
  obtain ⟨⟨a, k⟩, ha, rfl⟩ := hy
  exact h _ _ (List.fst_mem_of_mem_zipIdx ha)

/-- An entry of a table read within its length is one of its entries. -/
theorem tabGet_mem {α : Type} {n : Nat} (v : Vector α n) (i : Nat) (d : α) (h : i < n) : tabGet v i d ∈ v.toList := by
  simp [tabGet, h]

namespace Machine

/-- The entries after one is put: the new one, and those of other hooks. -/
theorem mem_putEntry {l : List FaultEntry} {e x : FaultEntry} (h : x ∈ putEntry e l) : x = e ∨ x ∈ l := by
  induction l with
  | nil => simpa [putEntry] using h
  | cons y rest ih =>
    simp only [putEntry] at h
    split at h
    · simpa using h
    · split at h
      · rcases List.mem_cons.1 h with h | h
        · exact .inl h
        · exact .inr (List.mem_cons_of_mem _ h)
      · rcases List.mem_cons.1 h with rfl | h
        · exact .inr (List.mem_cons_self ..)
        · rcases ih h with h | h
          · exact .inl h
          · exact .inr (List.mem_cons_of_mem _ h)

/-- Putting an entry keeps the ascending order of keys. -/
theorem putEntry_sorted {l : List FaultEntry} (e : FaultEntry) (h : l.Pairwise fun x y => x.hook < y.hook) :
    (putEntry e l).Pairwise fun x y => x.hook < y.hook := by
  induction l with
  | nil => simp [putEntry]
  | cons y rest ih =>
    rw [List.pairwise_cons] at h
    simp only [putEntry]
    split
    · rename_i hlt
      refine List.pairwise_cons.2 ⟨fun x hx => ?_, List.pairwise_cons.2 h⟩
      rcases List.mem_cons.1 hx with rfl | hx
      · exact hlt
      · exact Nat.lt_trans hlt (h.1 x hx)
    · split
      · rename_i heq
        exact List.pairwise_cons.2 ⟨fun x hx => heq ▸ h.1 x hx, h.2⟩
      · refine List.pairwise_cons.2 ⟨fun x hx => ?_, ih h.2⟩
        rcases mem_putEntry hx with rfl | hx
        · omega
        · exact h.1 x hx

/-- Putting an entry for a hook that has one replaces it; for another hook the table grows by one. -/
theorem putEntry_length (l : List FaultEntry) (e : FaultEntry) (hs : l.Pairwise fun x y => x.hook < y.hook) :
    (putEntry e l).length = if l.any (fun x => x.hook = e.hook) then l.length else l.length + 1 := by
  induction l with
  | nil => simp [putEntry]
  | cons y rest ih =>
    rw [List.pairwise_cons] at hs
    simp only [putEntry]
    split
    · rename_i hlt
      have : ¬ (y :: rest).any (fun x => decide (x.hook = e.hook)) := by
        simp only [List.any_eq_true, decide_eq_true_eq, not_exists, not_and]
        intro x hx
        rcases List.mem_cons.1 hx with rfl | hx
        · omega
        · have := hs.1 x hx; omega
      rw [if_neg this]; rfl
    · split
      · rename_i heq; simp [heq]
      · rename_i h1 h2
        simp only [List.length_cons, ih hs.2, List.any_cons, show decide (y.hook = e.hook) = false by simp; omega, Bool.false_or]
        split <;> rfl

end Machine

end Sys2Proof
end

