-- ==== Sys2Proof/Tests/Slice0.lean ====
section
/-! SUPPORT. Tests: an ill-formed term for each well-formedness check, one step for each command with its result worked out from the rule
cited, and, for each statement with hypotheses, a state and operands that meet them (a witness). -/

namespace Sys2Proof.Tests

open Sys2Proof Sys2Proof.Machine

set_option Elab.async false

/-! ### Helpers -/

/-- The state a command leaves. -/
def after (c : Instr) (s : State) : State :=
  match exec c s with
  | .next t => t
  | _ => s

/-- The outcome, detail and payload of the pending response. -/
def reply (s : State) : Option (ReplyOutcome × Detail × List Byte) := s.dlp.response.map fun r => (r.outcome, r.detail, r.payload)

/-- A chain of two modules in a state. -/
def chainIn (x : ChainState) : Chain := { Chain.powerOn with state := x, modules := 2 }

/-- A step record of design 0, rows 0 to 3. -/
def stepIn (seq : BitVec 16) (x : StepState) : StepRec :=
  { seq, design := 0, rowFirst := 0, rowLast := 3, vmode := .straight, n := 1, p := 1, weftSeq := 0, tag := none, stopAtEnd := false,
    rowBase := match x with | .waiting => none | _ => some 0#32, state := x }

/-- Design 0: 5 by 4 cells from block 0, live. -/
def design : Design := { w := 5, h := 4, base := 0, liveEdit := true }

/-- A pick of step 0 that raises hook 1. -/
def pick (g : BitVec 32) : Pick :=
  { g, seq := 0#16, t := g.toNat, row := 0, k := 0, weft := 0, channel := none, lift := 2#12288, forcedDown := 0, forcedUp := 0,
    unresolved := 0 }

/-- STOPPED: design 0 with one cell of colour 3, chain 0 ACTIVE, step 0 OPEN. -/
def base : State :=
  { State.reset with
    ps := { directory := tabSet (Vector.replicate 16 none) 0 (some design), cells := [(1, 3#4)], window := none }
    hcu := { State.reset.hcu with chains := tabSet (Vector.replicate 4 Chain.powerOn) 0 (chainIn .active) }
    pq := { State.reset.pq with steps := [stepIn 0#16 .opened], counter := 1#16 } }

/-- `base` with the shed of pick 0. -/
def shed : State := { base with ph.shed := some (pick 0#32) }

/-- A state in RUNNING at a position. -/
def runAt (s : State) (x : Nat) : State := { s with stu := { s.stu with weaving := .running, position := Fin.ofNat 1024 x } }

/-- A state with a staging record. -/
def staged (s : State) (x : Phase) : State := { s with pcm.staging := some ⟨pick s.nextG, x⟩ }

/-- A composition with no read taken. -/
def begun : Phase := .composing { slots := none, rows := [] }

/-- A composition over a FIXED section of six hooks of a weave with no raised bit, under Lw 2 and Lwarp 2, hook 2 at the warp limit. -/
def limited : State :=
  { staged base begun with
    pcm := { (staged base begun).pcm with
      sections := tabSet base.pcm.sections 0 { Section.powerOn with f := 0, c := 6, mode := .fixed, lw := 2 } }
    flm := { lwarp := 2, runs := [(2, 2)] } }

/-- A state with BUSY held. -/
def busyWith (s : State) (x : DlWork) : State := { s with dlp.work := some x }

/-- A wait for SYNC0, clearing it. -/
def waiting : Wait := { mask0 := true, mask1 := false, all := false, clear := true, timeout := 5, clamped := false }

/-- `base` with that wait pending. -/
def held : State := { busyWith base .wait with stu.wait := some waiting }

/-- `base` with the whole of design 0 as the window. -/
def windowed : State :=
  { base with ps.window := some { design := 0, col0 := 0, col1 := 4, row0 := 0, row1 := 3, order := .rowFirst, colDir := .up,
                                  rowDir := .up, row := 0, col := 0 } }

/-- A LEARNED entry of a hook. -/
def learnt (h : Nat) (age : Bool) : FaultEntry := { hook := h, kind := .learned age false, count := 7, sense := some .stuckUp }

/-- `base` with LEARNED entries of hooks 5 and 9. -/
def faulty : State := { base with hft.entries := [learnt 5 true, learnt 9 false] }

/-- `base` with chain 0 shifting for a work. -/
def shifting (x : ShiftWork) : State :=
  { base with hcu := { base.hcu with
      chains := tabSet base.hcu.chains 0 { chainIn .active with shift := some { work := x, drive := 2#3072, done := false } } } }

/-- `base` with chain 1 being probed, its count not yet ended. -/
def probed : State :=
  { busyWith base .probe with hcu := { base.hcu with
      chains := tabSet base.hcu.chains 1 { chainIn .probing with shift := some { work := .probe, drive := 0#3072, done := false } }
      probing := some { chain := 1, presented := none, mismatches := 0 } } }

/-- What a chain of two modules returns for its sensed states, the highest hook first (R133). -/
def echoOf (sensed : Share) : List ChainValue := (List.range 128).reverse.map fun i => .level (sensed.getLsbD i)

/-- RUNNING at a position with the finger WAITING for channel 0 and a release counted so far. -/
def waitingAt (x : Nat) (r : Release) : State :=
  { runAt shed x with wsu := { shed.wsu with finger := .waiting 0 false, release := some r } }

/-- The same where nothing is armed at the next position. -/
def waitingFor (r : Release) : State := waitingAt 900 r

/-- Logical weft 0 on channel 0, which is OUT, with channel 4 as its READY alternate. -/
def switchable : Wsu :=
  { State.reset.wsu with
    map := tabSet State.reset.wsu.map 0 { primary := 0, alternate := some 4, selection := .primary, exhausted := false }
    ready := tabSet State.reset.wsu.ready 0 false }

/-- FINDING with the shed of pick 0 re-presented on chain 0. -/
def representing (faulty : BitVec 4) : State :=
  { shifting .representation with
    stu.weaving := .finding, ph := { shed.ph with representing := some { g := 0, faulty := faulty } } }

/-- Chain 1 probed, with a shed presented to it. -/
def presenting (g : BitVec 32) : State :=
  { busyWith shed .probe with hcu := { shed.hcu with
      chains := tabSet shed.hcu.chains 1 { chainIn .probing with shift := some { work := .presentation, drive := 2#3072, done := false } }
      probing := some { chain := 1, presented := some g, mismatches := 0 } } }

/-! ### Well-formedness refuses ill-formed terms -/

theorem test_wf_chain_shift_long : (Instr.chainShiftComplete 0 (List.replicate 3073 .marker) .marker).wf = false := by decide +kernel
theorem test_wf_probe_marker : (Instr.probeCountEnd (some 3074)).wf = false := by decide +kernel
theorem test_wf_bad_check_sound : (Instr.llMessageBadCheck #v[1, 0, 0, 0, 0, 0, 0, 1]).wf = false := by decide +kernel
theorem test_wf_unknown_kind_known : (Instr.llUnknownKind #v[1, 0, 0, 0, 0, 0, 0, 1]).wf = false := by decide +kernel
theorem test_wf_unknown_kind_bad_check : (Instr.llUnknownKind #v[9, 0, 0, 0, 0, 0, 0, 1]).wf = false := by decide +kernel
theorem test_wf_gap_empty : (Instr.llByteGap [] 1).wf = false := by decide +kernel
theorem test_wf_gap_long : (Instr.llByteGap (List.replicate 8 0) 1).wf = false := by decide +kernel
theorem test_wf_discard_empty : (Instr.busyDiscard []).wf = false := by decide +kernel
theorem test_wf_unknown_frame_read : (Instr.dlUnknownFrame [0x00, 0, 0, 0, 0]).wf = false := by decide +kernel
theorem test_wf_unknown_frame_known : (Instr.dlUnknownFrame [0x01, 0, 0, 0, 1]).wf = false := by decide +kernel
theorem test_wf_bad_length_right : (Instr.dlBadLengthFrame [0x01, 0, 0, 0, 1]).wf = false := by decide +kernel
theorem test_wf_bad_check_right : (Instr.dlBadCheckFrame [0x01, 0, 0, 0, 1]).wf = false := by decide +kernel
theorem test_wf_cells_long : (Instr.cells 2048 (List.replicate 1029 0)).wf = false := by decide +kernel
theorem test_wf_cells_more_long : (Instr.cellsMore 2048 (List.replicate 1029 0)).wf = false := by decide +kernel
theorem test_wf_weave_long : (Instr.weaveWrite 0 32 32 (List.replicate 257 0)).wf = false := by decide +kernel
theorem test_wf_sequence_long : (Instr.weftSeqWrite 0 8 (List.replicate 1029 0)).wf = false := by decide +kernel

/-! ### Frames and messages, byte by byte (R179 to R184) -/

/-- STATUS_READ: kind 01h, length 0, check 0001h. -/
theorem test_frame_status_read : parseFrame [0x01, 0x00, 0x00, 0x00, 0x01] = some .statusRead := by decide +kernel
/-- EVENTS_CLEAR 8001h: kind 04h, length 2, check 04h + 02h + 80h + 01h. -/
theorem test_frame_events_clear : parseFrame [0x04, 0x00, 0x02, 0x80, 0x01, 0x00, 0x87] = some (.eventsClear 0x8001#16) := by
  decide +kernel
/-- QUEUE_READ 5. -/
theorem test_frame_queue_read : parseFrame [0x22, 0x00, 0x01, 0x05, 0x00, 0x28] = some (.queueRead 5) := by decide +kernel
/-- The response ACCEPT with payload 07h to QUEUE_WATERMARK. -/
theorem test_response_bytes :
    Response.bytes { outcome := .accept, kind := 0x23#8, detail := .clamped, payload := [7] } =
      [0x00, 0x23, 0x01, 0x00, 0x01, 0x07, 0x00, 0x2C] := by decide +kernel
/-- REFUSED(RUN, NOT_AT_START): 82h, 01h, 03h, unused bytes 0, check 86h. -/
theorem test_message_refused : (LoomMessage.refused 1 .notAtStart).bytes = [0x82, 1, 3, 0, 0, 0, 0, 0x86] := by decide +kernel

/-! ### One step for each command -/

/-- R45, R10. -/
theorem test_powerOn : (after .powerOn faulty).hft.entries = [] ∧ (after .powerOn faulty).pq.watermark = 2 := by decide +kernel
/-- R1: the position wraps modulo 1024. -/
theorem test_forwardStep_wraps : (after (.forwardStep 0) { base with stu.position := 1023 }).stu.position = 0 := by decide +kernel
/-- R4: an event fires at its angle and disarms. -/
theorem test_forwardStep_fires : (after (.forwardStep 0) { base with stu.position := 63 }).stu.armed.compose = false := by
  decide +kernel
/-- R1. -/
theorem test_backwardStep : (after .backwardStep base).stu.position = 1023 ∧ (after .backwardStep base).stu.armed.latch = true := by
  decide +kernel
/-- R1: counted only after the index has been seen. -/
theorem test_illegalTransition : (after .illegalTransition { base with stu.indexSeen := true }).evs.link.encoderSlip = 1#32 ∧
    (after .illegalTransition base).evs.link.encoderSlip = 0#32 := by decide +kernel
/-- R2, R8. -/
theorem test_forwardIndexCrossing :
    let s := { base with stu := { base.stu with swap := .nextPick, position := 1023, armed := ⟨false, false, false, false, false⟩ } }
    let t := after .forwardIndexCrossing s
    t.stu.position = 0 ∧ t.stu.armed.weftSelect = true ∧ t.stu.swap = .off ∧ t.flag .anglesSwapped = true := by decide +kernel
/-- R3. -/
theorem test_backwardIndexCrossing : (after .backwardIndexCrossing base).stu.position = 1023 ∧
    (after .backwardIndexCrossing base).stu.indexSeen = true := by decide +kernel
/-- R163: count 31 of 32, the next step engages the channel of the shed. -/
theorem test_deadTimeComplete :
    let s := { runAt shed 650 with wsu := { shed.wsu with finger := .waiting 0 false, release := some { dead := 32, count := 31 } } }
    (after (.deadTimeComplete 0) s).wsu.finger = .engaged 0 ∧ (after (.deadTimeComplete 0) s).wsu.servedG = some 0#32 := by
  decide +kernel
/-- R82: the record is COMPOSED. -/
theorem test_compositionEnd : stagingCode (after .compositionEnd (staged base begun)).pcm.staging = 2 := by decide +kernel
/-- R102: hook 2 is barred, so hook 3 ends a run of three, forced up and unresolved. -/
theorem test_compositionEnd_floats :
    ((after .compositionEnd limited).pcm.staging.map fun x =>
      (x.pick.lift, x.pick.forcedDown, x.pick.forcedUp, x.pick.unresolved)) = some (8#12288, 0, 1, 1) := by decide +kernel
/-- R133: the marker at M × 64 + 1, the record TRANSFERRED. -/
theorem test_chainShiftComplete : stagingCode
    (after (.chainShiftComplete 0 (echoOf 0) .marker) (staged (shifting .transfer) (.transferring []))).pcm.staging = 4 := by decide +kernel
/-- R135: no marker, the chain is ISOLATED. -/
theorem test_chainShiftComplete_fails : ((after (.chainShiftComplete 0 (echoOf 0) (.level false))
    (staged (shifting .transfer) (.transferring []))).chain 0).state = .isolated := by decide +kernel
/-- R149: an entry with its age flag clear is removed, the other has it cleared. -/
theorem test_agingPass : (after .agingPass faulty).hft.entries = [learnt 5 false] := by decide +kernel
/-- R23. -/
theorem test_waitTimeout : reply (after .waitTimeout held) = some (.refuse, .timeout, [0, 0]) := by decide +kernel
/-- R50: the cells read 0, and 4 blocks of the store are used. -/
theorem test_defineClearDone : (after .defineClearDone (busyWith base (.define 0))).ps.cells = [] ∧
    reply (after .defineClearDone (busyWith base (.define 0))) =
      some (.accept, .plain, [0, 0, 1, 0, 0, 0, 4, 0, 0, 0xFF, 0xFC, 0, 0, 0xFF, 0xFC]) := by decide +kernel
/-- R61: 5 + 4 + 3. -/
theorem test_sumDone : reply (after .sumDone (busyWith base (.sum 0))) = some (.accept, .plain, [0, 12, 0, 5, 0, 4]) := by
  decide +kernel
/-- R131: the count M with no shed makes the chain ACTIVE. -/
theorem test_probeCountEnd : ((after (.probeCountEnd (some 129)) probed).chain 1).state = .active ∧
    reply (after (.probeCountEnd (some 129)) probed) = some (.accept, .plain, [2, 2, 3, 0, 0, 0, 0, 0, 0, 0]) := by decide +kernel
/-- R130: another count isolates it. -/
theorem test_probeCountEnd_other : ((after (.probeCountEnd (some 65)) probed).chain 1).state = .isolated := by decide +kernel
/-- R12, R167. -/
theorem test_run : (after .run shed).stu.weaving = .running ∧ (after .run shed).wsu.finger = .engaged 0 ∧
    (after .run shed).llp.queue = [.runAck] := by decide +kernel
/-- R11: at the COMPOSE angle RUN is refused. -/
theorem test_run_refused : (after .run { base with stu.position := 64 }).llp.queue = [.refused 1 .notAtStart] := by decide +kernel
/-- R13: cause 5 is taken as EXTERNAL, IMMEDIATE by default. -/
theorem test_stop : (after (.stop 5 0) (runAt base 0)).stu.lastStop = some ⟨.external, none, .immediate⟩ ∧
    (after (.stop 5 0) (runAt base 0)).stu.weaving = .stopped := by decide +kernel
/-- R17. -/
theorem test_find : (after .find base).stu.weaving = .finding := by decide +kernel
/-- R120: the newest ring record becomes the shed, and chain 0 shifts it. -/
theorem test_pickBack :
    let t := after .pickBack { shed with stu.weaving := .finding, ph := { shed.ph with shed := some (pick 1#32), ring := [pick 0#32] } }
    t.ph.shed = some (pick 0#32) ∧ t.ph.ring = [] ∧ t.shifting .representation = true := by decide +kernel
/-- R159: logical weft 2 has no alternate and is exhausted. -/
theorem test_packageOut : ((after (.packageOut 2) base).wsu.entry 2).exhausted = true ∧
    (after (.packageOut 2) base).flag .weftExhausted = true := by decide +kernel
/-- R159. -/
theorem test_packageReady : ((after (.packageReady 2) (after (.packageOut 2) base)).wsu.entry 2).exhausted = false := by decide +kernel
/-- R24. -/
theorem test_releaseWait : reply (after .releaseWait held) = some (.refuse, .released, [1, 1]) := by decide +kernel
/-- R184: STATE of a STOPPED part without a shed. -/
theorem test_statusAsk : (after .statusAsk base).llp.queue.map LoomMessage.bytes = [[0x86, 0, 0, 0, 0, 0, 0, 0x86]] := by decide +kernel
/-- R160: the report holds the finger; R184: its bytes show the shed alone, here a RUNNING part without one. -/
theorem test_statusAsk_finger :
    let t := after .statusAsk { runAt base 0 with wsu.finger := .engaged 5 }
    (t.llp.queue.map fun m => match m with | .state r => some r.finger | _ => none) = [some (.engaged 5)] ∧
    t.llp.queue.map LoomMessage.bytes = [[0x86, 0x40, 0, 0, 0, 0, 0, 0xC6]] := by decide +kernel
/-- R185. -/
theorem test_llMessageBadCheck : (after (.llMessageBadCheck #v[1, 0, 0, 0, 0, 0, 0, 2]) base).evs.link.linkErrors = 1#32 := by
  decide +kernel
/-- R185. -/
theorem test_llUnknownKind : (after (.llUnknownKind #v[9, 0, 0, 0, 0, 0, 0, 9]) base).llp.queue = [.refused 9 .unknown] := by
  decide +kernel
/-- R185. -/
theorem test_llFramingError : (after .llFramingError { base with llp.received := [1, 2] }).llp.received = [] := by decide +kernel
/-- R185: the byte after the gap is byte 0 of a new message. -/
theorem test_llByteGap : (after (.llByteGap [1, 2] 8) base).llp.received = [8] ∧
    (after (.llByteGap [1, 2] 8) base).evs.link.linkErrors = 1#32 := by decide +kernel
/-- R187. -/
theorem test_llMessageSent : (after .llMessageSent { base with llp.queue := [.runAck, .backDone 3] }).llp.queue = [.backDone 3] := by
  decide +kernel
/-- R175: cut short within the response, which is lost. -/
theorem test_responseRead : (after (.responseRead 1) (after .storeFree base)).dlp.response = none ∧
    (after (.responseRead 1) (after .storeFree base)).evs.link.dlLostResponse = 1#32 := by decide +kernel
/-- R174. -/
theorem test_busyDiscard : (after (.busyDiscard [1, 0, 0, 0, 1]) held).evs.link.dlBusyDiscard = 1#32 := by decide +kernel
/-- R172. -/
theorem test_dlUnknownFrame : reply (after (.dlUnknownFrame [0x7F, 0, 0, 0, 0x7F]) base) = some (.unknown, .plain, []) := by
  decide +kernel
/-- R172. -/
theorem test_dlBadLengthFrame : reply (after (.dlBadLengthFrame [1, 0, 1, 0, 2]) base) = some (.refuse, .badLength, []) := by
  decide +kernel
/-- R172. -/
theorem test_dlBadCheckFrame : reply (after (.dlBadCheckFrame [1, 0, 0, 0, 2]) base) = some (.refuse, .badCheck, []) := by
  decide +kernel
/-- R176: weaving state, position and index-seen come first. -/
theorem test_statusRead : (reply (after .statusRead (runAt base 258))).map (fun r => r.2.2.take 4) = some [1, 1, 2, 0] := by
  decide +kernel
/-- R177: the LEARNED entries go. -/
theorem test_softReset : (after .softReset faulty).hft.entries = [] ∧ ((after .softReset faulty).chain 0).state = .unprobed := by
  decide +kernel
/-- R188, R179: STOPPED is the sixth of the 15 flags, a byte each; the mask follows in two bytes. -/
theorem test_eventsRead : (reply (after .eventsRead (base.raise .stopped))).map (fun r => r.2.2.take 17) =
    some ([0, 0, 0, 0, 0, 1, 0, 0, 0, 0, 0, 0, 0, 0, 0] ++ bytes16 (base.evs.mask.setWidth 16)) := by
  decide +kernel
/-- R188. -/
theorem test_eventsClear : (after (.eventsClear 0x20) (base.raise .stopped)).attn = false ∧
    (reply (after (.eventsClear 0x4000) (base.raise .stopped))).map (fun r => r.2.2) =
      some [0, 0, 0, 0, 0, 1, 0, 0, 0, 0, 0, 0, 0, 0, 0] := by decide +kernel
/-- R189: a mask with bit 15 set is refused. -/
theorem test_eventsMask : reply (after (.eventsMask 0x8000) base) = some (.refuse, .badField, []) := by decide +kernel
/-- R190. -/
theorem test_statsRead : reply (after (.statsRead 5) base) = some (.refuse, .badField, []) := by decide +kernel
/-- R190. -/
theorem test_statsClear : (after (.statsClear 4) (after .llFramingError base)).evs.link.linkErrors = 0#32 := by decide +kernel
/-- R6: LATCH may be 1023 and no more. -/
theorem test_anglesWrite : (after (.anglesWrite 1 2 1023 1 2 255) base).stu.buffered = ⟨1, 2, 1023, 1, 2, 255⟩ ∧
    reply (after (.anglesWrite 1 2 1024 1 2 255) base) = some (.refuse, .badField, []) := by decide +kernel
/-- R7. -/
theorem test_anglesArm : (after (.anglesArm 2) base).stu.swap = .nextStep := by decide +kernel
/-- R9: COMPOSE 64 is the first value. -/
theorem test_anglesRead : (reply (after .anglesRead base)).map (fun r => (r.2.2.take 4, r.2.2.length)) = some ([0, 64, 1, 64], 23) := by
  decide +kernel
/-- R13. -/
theorem test_stopModeWrite : reply (after (.stopModeWrite 4 1) base) = some (.accept, .plain, [0, 1, 1, 1]) := by decide +kernel
/-- R20. -/
theorem test_syncSource : (after (.syncSource 1 6) base).stu.source1 = .stopped := by decide +kernel
/-- R21. -/
theorem test_syncSet : reply (after (.syncSet 2) base) = some (.accept, .plain, [0, 1]) := by decide +kernel
/-- R21. -/
theorem test_syncClear : reply (after (.syncClear 1) (after (.syncSet 3) base)) = some (.accept, .plain, [0, 1]) := by decide +kernel
/-- R22: a timeout of 0 is clamped to 1, and BUSY is held. -/
theorem test_waitSync : (after (.waitSync 1 0 0 0) base).stu.wait.map (fun w => (w.timeout, w.clamped)) = some (1, true) ∧
    (after (.waitSync 1 0 0 0) base).busy = true := by decide +kernel
/-- R27: the seq of the counter, and two records after it. -/
theorem test_stepAppend : reply (after (.stepAppend 0 0 3 1 1 1 0 ⟨0, 0⟩ 0) base) = some (.accept, .plain, [0, 1, 2]) := by decide +kernel
/-- R29. -/
theorem test_stepCut : reply (after (.stepCut 1) (after (.stepAppend 0 0 3 1 1 1 0 ⟨0, 0⟩ 0) base)) = some (.accept, .plain, [1, 1]) ∧
    reply (after (.stepCut 0) base) = some (.refuse, .locked, []) := by decide +kernel
/-- R30: L = 4, P_v = 4, T = 4 and one OPEN record end the answer. -/
theorem test_queueRead : (reply (after (.queueRead 0) base)).map (fun r => r.2.2.drop (r.2.2.length - 12)) =
    some [0, 4, 0, 4, 0, 0, 0, 4, 1, 0, 1, 0] := by decide +kernel
/-- R31. -/
theorem test_queueWatermark : (after (.queueWatermark 32) base).pq.watermark = 31 := by decide +kernel
/-- R50: the first free run after design 0. -/
theorem test_designDefine : (after (.designDefine 1 513 2 0) base).design? 1 = some ⟨513, 2, 4, false⟩ := by decide +kernel
/-- R51. -/
theorem test_designDelete : reply (after (.designDelete 0) base) = some (.refuse, .inUse, []) ∧
    reply (after (.designDelete 0) { base with pq.steps := [] }) = some (.accept, .plain, [0, 1, 0, 0, 0, 1, 0, 0]) := by decide +kernel
/-- R52: W, H, base, B, live, locked, and one OPEN step. -/
theorem test_designInfo : reply (after (.designInfo 0) base) = some (.accept, .plain, [0, 5, 0, 4, 0, 0, 1, 1, 1, 0, 1, 0]) := by
  decide +kernel
/-- R56: the start corner of a DOWN traversal. -/
theorem test_designWindow : reply (after (.designWindow 0 1 3 0 2 0 1 1) base) = some (.accept, .plain, [0, 0, 0, 9, 0, 2, 0, 3]) := by
  decide +kernel
/-- R58, R182: the first cell in the high nibble. -/
theorem test_cells : (after (.cells 3 [0xA0, 0xB0]) windowed).ps.cells = [(0, 10#4), (2, 11#4)] := by decide +kernel
/-- R58: writing goes on at the cursor. -/
theorem test_cellsMore : (after (.cellsMore 1 [0x50]) (after (.cells 5 [0, 0, 0]) windowed)).ps.cells = [(512, 5#4)] := by decide +kernel
/-- R59. -/
theorem test_cellsRead : reply (after (.cellsRead 3) windowed) = some (.accept, .plain, [0, 3, 0x03, 0x00, 0, 0, 0, 3]) := by decide +kernel
/-- R59. -/
theorem test_readMore : reply (after (.readMore 1) (after (.cellsRead 1) windowed)) = some (.accept, .plain, [0, 1, 0x30, 0, 0, 0, 2]) := by
  decide +kernel
/-- R61. -/
theorem test_designSum : (after (.designSum 0) base).dlp.work = some (.sum 0) := by decide +kernel
/-- R62. -/
theorem test_storeFree : reply (after .storeFree base) = some (.accept, .plain, [0, 0, 0xFF, 0xFC, 0, 0, 0xFF, 0xFC, 0, 4, 1]) := by
  decide +kernel
/-- R64: bits of columns at ww and above are stored 0. -/
theorem test_weaveWrite : ((after (.weaveWrite 1 2 1 [0xFFFFFFFF]) base).weave 1).rows = [0xC0000000#32] := by decide +kernel
/-- R67. -/
theorem test_weaveRead : reply (after (.weaveRead 31) base) = some (.accept, .plain, [1, 1, 0, 0, 0, 0, 0, 0, 0]) := by decide +kernel
/-- R71. -/
theorem test_colormapWrite :
    ((after (.colormapWrite 0 15 #v[⟨1, 31, 2, 3, 1⟩, ⟨0, 9, 9, 9, 9⟩, ⟨0, 0, 0, 0, 0⟩, ⟨0, 0, 0, 0, 0⟩]) base).slots 0 15)[0] =
      some ⟨31, 2, 3, true⟩ := by decide +kernel
/-- R73: four absent slots. -/
theorem test_colormapRead : reply (after (.colormapRead 0 0) base) = some (.accept, .plain, List.replicate 20 0) := by decide +kernel
/-- R75: Lw 1 is clamped to 2; a section past the chain's 128 hooks conflicts. -/
theorem test_sectionWrite : ((after (.sectionWrite 0 0 128 0 0 0 0 1) base).section 0).lw = 2 ∧
    reply (after (.sectionWrite 0 0 129 0 0 0 0 1) base) = some (.refuse, .conflict, []) := by decide +kernel
/-- R77. -/
theorem test_sectionRead : reply (after (.sectionRead 0) (after (.sectionWrite 0 0 128 0 0 0 0 0) base)) =
    some (.accept, .plain, [0, 0, 0, 128, 0, 0, 0, 0, 0, 0, 0, 128]) := by decide +kernel
/-- R109: rebuilt from the shed, whose hook 1 is at the limit's cap or below. -/
theorem test_floatLimits : reply (after (.floatLimits 1) shed) = some (.accept, .clamped, [2, 0, 0, 0, 1]) := by decide +kernel
/-- R110. -/
theorem test_runCountersRead : reply (after (.runCountersRead 1 2) { shed with flm.runs := [(1, 3)] }) =
    some (.accept, .plain, [3, 0, 0, 1, 0]) := by decide +kernel
/-- R125, R182: hook 1 in bit 6. -/
theorem test_historyRead : (reply (after (.historyRead 0 0 8) shed)).map (fun r => r.2.2.getLast?) = some (some 0x40#8) := by
  decide +kernel
/-- R129. -/
theorem test_chainConfig : (after (.chainConfig 1 48 64) base).chain 1 = { Chain.powerOn with state := .unprobed, modules := 48, divisor := 64 } := by
  decide +kernel
/-- R130. -/
theorem test_chainProbe : ((after (.chainProbe 1) (after (.chainConfig 1 2 8) base)).chain 1).state = .probing := by decide +kernel
/-- R140. -/
theorem test_chainRead : (reply (after (.chainRead 0) base)).map (fun r => r.2.2.take 4) = some [3, 2, 8, 255] := by decide +kernel
/-- R150: an entry made STATIC keeps its count. -/
theorem test_faultPut : (after (.faultPut 5 0 0) faulty).hft.find 5 = some ⟨5, .fixed .park, 7, some .stuckUp⟩ := by decide +kernel
/-- R151. -/
theorem test_faultRemove : (after (.faultRemove 5) faulty).hft.entries = [learnt 9 false] := by decide +kernel
/-- R152. -/
theorem test_faultFirst : (after .faultFirst faulty).hft.position = some 5 := by decide +kernel
/-- R152. -/
theorem test_faultNext : (after .faultNext (after .faultFirst faulty)).hft.position = some 9 ∧
    reply (after .faultNext faulty) = some (.refuse, .notFound, []) := by decide +kernel
/-- R149: below 256 the period is clamped. -/
theorem test_agingPeriod : reply (after (.agingPeriod 255) base) = some (.accept, .clamped, [1, 0]) := by decide +kernel
/-- R153. -/
theorem test_faultStop : (after (.faultStop 255) base).hft.threshold = 255 := by decide +kernel
/-- R153: two LEARNED, period 4096, counter 0, threshold 8. -/
theorem test_faultInfo : reply (after (.faultInfo 0) faulty) =
    some (.accept, .plain, [2, 0, 0x10, 0, 0, 0, 8, 0, 0, 0, 0, 0, 0, 0, 0, 0]) := by decide +kernel
/-- R156. -/
theorem test_weftSeqWrite : tabGet (after (.weftSeqWrite 15 2 [7, 0]) base).wsu.sequences 15 [] = [7, 0] ∧
    reply (after (.weftSeqWrite 15 1 [8]) base) = some (.refuse, .badField, []) := by decide +kernel
/-- R157. -/
theorem test_weftMapWrite : (after (.weftMapWrite 0 3 ⟨1, 4⟩ 1) base).wsu.entry 0 = ⟨3, some 4, .alternate, false⟩ := by decide +kernel
/-- R169: sequence [0], then the first map entry. -/
theorem test_weftRead : (reply (after (.weftRead 0) base)).map (fun r => r.2.2.take 7) = some [1, 0, 0, 0, 0, 0, 0] := by decide +kernel

/-- R33: a shed marked last is not asked about again, so the step appended after it is not composed; without the mark it is. -/
theorem test_marked_last :
    let s := runAt { shed with pq.steps := [{ stepIn 0 .opened with n := 1, stopAtEnd := true }], ph.shed := some (pick 3) } 63
    let t := after (.forwardStep 0) s
    let u := { t with stu := { t.stu with position := 63, armed := s.stu.armed }, pq.steps := t.pq.steps ++ [stepIn 1 .waiting] }
    t.pcm.marked = true ∧ t.pcm.programEnd = true ∧ (after (.forwardStep 0) u).pcm.staging = none ∧
    (after (.forwardStep 0) { u with pcm.marked := false }).pcm.staging.isSome = true := by decide +kernel
/-- R133: the marker, then the highest hook first; the echo is read in the same order. -/
theorem test_values_order :
    let c := chainIn .active
    (c.valuesIn (1#3072 <<< 127)).take 3 = [.marker, .level true, .level false] ∧ (c.valuesIn 1#3072).getLast? = some (.level true) ∧
    descending (echoOf (1#3072 <<< 127)) = 1#3072 <<< 127 := by decide +kernel
/-- R171, R174: FFh for each byte of a command frame of seven bytes, and of a discarded bracket of two. -/
theorem test_shiftedOut_idle : (after (.eventsMask 0) base).dlp.shiftedOut = List.replicate 7 0xFF#8 ∧
    (after (.busyDiscard [1, 0]) held).dlp.shiftedOut = [0xFF#8, 0xFF#8] := by decide +kernel
/-- R165: served already, the composed pick finds its weft switched, the finger is released and waits, and WEFT_SELECT counts as delivered. -/
theorem test_channel_check :
    let s := runAt { shed with wsu := { switchable with finger := .engaged 0, servedG := some 1 } } 63
    (after (.forwardStep 0) s).wsu.finger = .waiting 4 false ∧ (after (.forwardStep 0) s).wsu.release = some ⟨32, 0⟩ ∧
    (after (.forwardStep 0) s).flag .weftSwitched = true ∧ (after (.forwardStep 0) s).stu.armed.weftSelect = false := by decide +kernel

/-! ### Witnesses: states and operands that meet the hypotheses of the statements -/

/-- A queue with a command in front. -/
theorem witness_StepTakesFrontCommand : { base with pending := [.run, .find] }.pending = .run :: [.find] ∧ base.pending = [] := by
  decide +kernel

/-- A command of no payload, and one of the longest payload. -/
theorem witness_CommandFramesReadBack :
    (commandCode .statusRead).isSome = true ∧ Instr.statusRead.wf = true ∧
    (commandCode (.cells 2048 (List.replicate 1028 7))).isSome = true ∧ (Instr.cells 2048 (List.replicate 1028 7)).wf = true := by
  decide +kernel

/-- A command with a payload. -/
theorem witness_FrameBracketIsCommand : (commandCode (.stepCut 3)).isSome = true ∧ (Instr.stepCut 3).wf = true := by decide +kernel

theorem witness_MessageBytesAreMessage : base.llp.received = [] := by decide +kernel

theorem witness_BusyDiscardsBrackets :
    held.dlp.work.isSome = true ∧ (commandCode .statusRead).isSome = true ∧ ([0x01#8] : List Byte) ≠ [] := by decide +kernel

/-- No response; a response of eight bytes read whole and cut short after one and after seven; a frame too short, one of a length field
above 1030, one whose check is wrong, one of no command's kind. -/
theorem witness_BracketsGivenByBytes :
    base.dlp.work = none ∧ base.dlp.response = none ∧
    (let r : Response := { outcome := .accept, kind := 0x23#8, detail := .plain, payload := [7] }
     let s := { base with dlp.response := some r }
     s.dlp.work = none ∧ s.dlp.response = some r ∧ 1 < r.bytes.length ∧ 7 < r.bytes.length ∧ r.bytes.length ≤ 8) ∧
    ([0x01#8, 0, 0, 1] : List Byte).length < 5 ∧ 1030 < frameLength [0x01#8, 4, 7, 0, 0] ∧
    (bytes16 (checkSum [0x01#8, 0, 0]) ≠ [0, 2] ∧ ([0x01#8, 0, 0, 0, 2] : List Byte).length = frameLength [0x01#8, 0, 0, 0, 2] + 5) ∧
    isCommandCode 0x7F = false ∧ bytes16 (checkSum [0x7F#8, 0, 0]) = [0, 0x7F] := by decide +kernel

/-- A wrong check; a right one of an unknown kind with 15 and with 16 messages queued; gaps after one and seven bytes; a message sent from
the queue, and one kept across a soft reset. -/
theorem witness_LoomLink :
    (let m : Vector Byte 8 := #v[1, 0, 0, 0, 0, 0, 0, 2]; m[7] ≠ messageCheck (m.toList.take 7)) ∧
    (let m : Vector Byte 8 := #v[9, 0, 0, 0, 0, 0, 0, 9]; m[7] = messageCheck (m.toList.take 7) ∧ isMessageKind m[0] = false) ∧
    ({ base with llp.queue := List.replicate 15 .runAck }).llp.queue.length < 16 ∧
    16 ≤ ({ base with llp.queue := List.replicate 16 .runAck }).llp.queue.length ∧ base.llp.received = [] ∧
    base.llp.sending = none ∧ ({ base with llp.sending := some .runAck }).llp.sending.isSome = true := by decide +kernel

/-- Not RUNNING; RUNNING where nothing is armed at the next position; the index seen and not seen; the last step of a dead time. -/
theorem witness_QuietSteps :
    (base.stu.weaving ≠ .running ∧ ({ base with stu.indexSeen := true }).stu.indexSeen = true ∧ base.stu.indexSeen = false) ∧
    (runAt shed 100).stu.weaving = .running ∧ (runAt shed 100).stu.firedAt ((runAt shed 100).stu.position + 1).val = [] ∧
    (∀ c b, (runAt shed 100).wsu.finger ≠ .waiting c b) ∧
    (let s := waitingFor { dead := 255, count := 254 }
     s.stu.weaving = .running ∧ s.stu.firedAt (s.stu.position + 1).val = [] ∧ s.wsu.finger = .waiting 0 false ∧
       s.wsu.release = some { dead := 255, count := 254 } ∧ s.pickDue.weft? = some 0 ∧
       s.wsu.isReady (s.wsu.entry 0).selected = true) :=
  ⟨by decide +kernel, by decide +kernel, by decide +kernel, nofun, by decide +kernel⟩

theorem witness_BackwardIndexCrossing :
    (let s := { base with stu := { base.stu with position := 1, indexSeen := true } }
     s.stu.position ≠ 0 ∧ s.stu.indexSeen = true) ∧ (base.stu.position = 0 ∧ base.stu.indexSeen = false) := by decide +kernel

/-- The swap by NEXT_PICK and by NEXT_STEP with pick 0 of a step; no swap; a slip at 1022 and none at 1023. -/
theorem witness_ForwardIndexCrossing :
    ((∀ c b, shed.wsu.finger ≠ .waiting c b) ∧ shed.wsu.release = none ∧ shed.stu.wait = none) ∧
    (let s := { shed with stu.swap := .nextStep }
     s.stu.swap = .nextStep ∧ s.ph.shed = some (pick 0) ∧ (pick 0).t = 0) ∧ shed.stu.swap = .off ∧
    (let s := { shed with stu := { shed.stu with indexSeen := true, position := 1022 } }
     s.stu.indexSeen = true ∧ s.stu.position ≠ 1023) :=
  ⟨⟨nofun, rfl, rfl⟩, by decide +kernel, by decide +kernel, by decide +kernel⟩

/-- A released finger, a waiting one, and one carried before, with one step of the dead time to run after the crossing. -/
theorem witness_EngagementCarriedPastIndex :
    let r : Release := { dead := 32, count := 30 }
    let s := { runAt shed 1023 with wsu := { shed.wsu with release := some r } }
    (s.stu.weaving = .running ∧ s.wsu.release = some r ∧ r.count + 1 < r.dead ∧ s.llp.queue.length < 16) ∧
    (s.pickDue.weft? = some 0 ∧ s.wsu.isReady (s.wsu.entry 0).selected = true) ∧ s.wsu.finger = .off ∧
    ({ s with wsu.finger := .waiting 0 false }).wsu.finger = .waiting 0 false ∧
    ({ s with wsu.finger := .waiting 0 true }).wsu.finger = .waiting 0 true := by decide +kernel

/-- The count of WEFT_LATE and the messages queued after a step. -/
def lateAfter (o : Host.Outcome State Fault Refusal) : Option (Counter × Nat) :=
  match o with
  | .next t => some (t.evs.weft.weftLate, t.llp.queue.length)
  | _ => none

/-- An engagement outstanding is counted at the crossing that carries it, and not at a second one (R164). -/
theorem test_carry_counts_once :
    let s := { runAt shed 1023 with wsu := { shed.wsu with finger := .waiting 0 false, release := some { dead := 32, count := 1 } } }
    lateAfter (exec .forwardIndexCrossing s) = some (1, 1) ∧
    lateAfter (exec .forwardIndexCrossing { s with wsu.finger := .waiting 0 true }) = some (0, 0) := by decide +kernel

/-- Legal angles at their least and greatest values, and each bound passed. -/
theorem witness_TimingUnitCommands :
    base.dlp.work = none ∧
    (let legal : BitVec 16 → BitVec 16 → BitVec 16 → BitVec 16 → BitVec 16 → Prop := fun co tr la wr ws =>
      0 < co.toNat ∧ co.toNat < tr.toNat ∧ tr.toNat < la.toNat ∧ la.toNat ≤ 1023 ∧ 0 < wr.toNat ∧ wr.toNat < la.toNat ∧
        wr.toNat < ws.toNat ∧ ws.toNat ≤ 1023
     legal 1 2 3 1 2 ∧ legal 1021 1022 1023 1022 1023 ∧ ¬ legal 0 2 3 1 2 ∧ ¬ legal 1 2 1024 1 2 ∧ ¬ legal 1 2 3 3 4 ∧
       ¬ legal 1 2 3 1 1024) ∧
    3 ≤ (3 : Byte).toNat ∧ 1 < (2 : Byte).toNat ∧ 4 < (5 : Byte).toNat ∧ syncSourceOf 6 = some .stopped ∧ 6 < (7 : Byte).toNat ∧
    (3 : Byte).toNat < 4 ∧ 4 ≤ (4 : Byte).toNat := by decide +kernel

/-- A refused mask, a condition met for ALL and for ANY, one not met; no wait, and a wait that an entry into STOPPED ends, one that it does
not end, and one that the first latch ends. -/
theorem witness_Waits :
    base.dlp.work = none ∧ 4 ≤ (4 : Byte).toNat ∧
    (let s := { base with stu.sync0 := true }
     s.dlp.work = none ∧ s.stu.sync0 = true ∧ s.stu.sync1 = false ∧ (1 : Byte).getLsbD 0 = true ∧ (1 : Byte).getLsbD 1 = false) ∧
    base.stu.wait = none ∧ held.stu.wait = some waiting ∧
    (let s := { held with stu := { held.stu with weaving := .finding, source0 := .stopped } }
     s.stu.wait = some waiting ∧ s.stu.weaving ≠ .stopped ∧ waiting.all = false ∧ waiting.mask0 = true ∧ s.stu.source0 = .stopped ∧
       held.stu.source0 ≠ .stopped ∧ held.stu.sync0 = false) ∧
    (let s := staged (runAt { held with stu.source0 := .latchDone } 767) (.transferred [])
     s.stu.wait = some waiting ∧ s.stu.weaving = .running ∧ s.stu.firedAt (s.stu.position + 1).val = [.latch] ∧ s.wsu.finger = .off ∧
       s.ph.shed = none ∧ s.pcm.staging = some ⟨pick 0, .transferred []⟩) := by decide +kernel

/-- Each condition of RUN failing first, and all of them holding. -/
theorem witness_RunRefusals :
    (runAt base 0).runRefusal = some .wrongState ∧
    State.runRefusal { base with ph.representing := some { g := 0, faulty := 0 } } = some .busy ∧
    State.runRefusal { base with stu.position := 64 } = some .notAtStart ∧ State.runRefusal { base with pq.steps := [] } = some .noProgram ∧
    State.runRefusal { base with hcu := State.reset.hcu } = some .chainNotReady ∧
    State.runRefusal { base with stu.position := 63 } = none := by
  decide +kernel

/-- No shed; a shed whose weft switches to its other channel, with no channel yet and with one; a finger engaged before. -/
theorem witness_RunTaken :
    (base.runRefusal = none ∧ base.llp.queue.length < 16 ∧ base.ph.shed = none) ∧
    (let s := { shed with wsu := switchable }
     s.runRefusal = none ∧ s.llp.queue.length < 16 ∧ s.ph.shed = some (pick 0) ∧ (pick 0).channel = none ∧
       s.wsu.isReady (s.wsu.entry 0).selected = false ∧ s.wsu.isReady 4 = true ∧ (s.wsu.entry 0).alternate = some 4) ∧
    (let s := { shed with wsu.finger := .engaged 0, ph.shed := some { pick 0 with channel := some 7 } }
     s.runRefusal = none ∧ s.wsu.finger = .engaged 0 ∧ s.ph.shed = some { pick 0 with channel := some 7 }) := by decide +kernel

theorem witness_StopAndFindOutsideRunning : base.stu.weaving = .stopped ∧ ({ base with stu.weaving := .finding }).stu.weaving = .finding ∧
    base.stu.wait = none ∧ base.llp.queue.length < 16 ∧ (runAt base 0).stu.weaving ≠ .stopped ∧
    (staged base (.composed [])).pcm.staging.isSome = true := by decide +kernel

/-- A stop of either mode, with a finger WAITING and with one ENGAGED, and no wait pending. -/
theorem witness_StopInRunning :
    let s := { runAt (staged shed (.composed [])) 100 with wsu.finger := .waiting 1 false }
    s.stu.weaving = .running ∧ s.wsu.finger = .waiting 1 false ∧ ({ s with wsu.finger := .engaged 1 }).wsu.finger = .engaged 1 ∧
    s.stu.modes.mode (stopCause 1) = .immediate ∧ s.stu.modes.mode (stopCause 2) = .synchronous ∧ s.pcm.staging.isSome = true ∧
    s.stu.wait = none ∧ s.llp.queue.length < 16 := by
  decide +kernel

/-- A change of the weaving state by FIND, by RUN, by STOP, by a LATCH and by a chain that fails its marker check. -/
theorem witness_WeavingStateChanges :
    Instr.find.wf = true ∧ Instr.find ≠ .powerOn ∧ (∀ held b, Instr.find ≠ .llByteGap held b) ∧ exec .find base = .next (after .find base) ∧
    (Instr.forwardStep 0).wf = true ∧ (Instr.chainShiftComplete 0 (echoOf 0) (.level false)).wf = true ∧
    (after .find base).stu.weaving ≠ base.stu.weaving ∧ (after .run base).stu.weaving ≠ base.stu.weaving ∧
    (after (.stop 1 0) (runAt base 0)).stu.weaving ≠ (runAt base 0).stu.weaving ∧
    (let s := runAt (staged base (.composed [])) 767
     (after (.forwardStep 0) s).stu.weaving ≠ s.stu.weaving) ∧
    (let s := staged (runAt (shifting .transfer) 100) (.transferring [])
     (after (.chainShiftComplete 0 (echoOf 0) (.level false)) s).stu.weaving ≠ s.stu.weaving) :=
  ⟨rfl, nofun, nofun, rfl, by decide +kernel⟩

/-- Each condition of PICK_BACK failing first: not FINDING, a re-presentation, an empty ring, and 32 records without the origin. -/
theorem witness_PickBackRefusals :
    let s := { shed with stu.weaving := .finding }
    shed.stu.weaving ≠ .finding ∧
    ({ s with ph.representing := some { g := 0, faulty := 0 } }).ph.representing ≠ none ∧
    (s.stu.weaving = .finding ∧ s.ph.representing = none ∧ ¬ 1 ≤ s.ph.ring.length) ∧
    (let u := { s with ph := { s.ph with ring := List.replicate 32 (pick 0), origin := false } }
     1 ≤ u.ph.ring.length ∧ ¬ (u.ph.origin = true ∨ 33 ≤ u.ph.ring.length)) := by decide +kernel

/-- A ring of one record with the origin, a chain ACTIVE and none. -/
theorem witness_PickBackTaken :
    let s := { shed with stu.weaving := .finding, ph := { shed.ph with shed := some (pick 1), ring := [pick 0] } }
    (s.stu.weaving = .finding ∧ s.ph.representing = none ∧ s.pcm.staging = none ∧ s.ph.ring = [] ++ [pick 0] ∧ s.ph.origin = true ∧
      s.shifting .representation = false ∧ s.llp.queue.length < 16) ∧
    (s.chain 0).state = .active ∧ ∀ i : Nat, i < 4 → ({ s with hcu := State.reset.hcu }.chain i).state ≠ .active := by decide +kernel

/-- Channel 8 refused; channel 7 with an entry newly exhausted, and with none; channel 0 with an entry that switches to a READY channel. -/
theorem witness_PackageMessages :
    base.llp.queue.length < 15 ∧ 8 ≤ (8 : Byte).toNat ∧ (7 : Byte).toNat < 8 ∧ (base.wsu.entry 7).exhausted = false ∧
    (base.wsu.entry 7).selected = 7 ∧ base.wsu.spare (base.wsu.entry 7) = none ∧
    (∀ w : Nat, w < 8 →
      ({ base.wsu with map := tabMap (fun _ (e : WeftEntry) => { e with exhausted := true }) base.wsu.map }.entry w).exhausted = true) ∧
    ((switchable.entry 0).selected = 0 ∧ switchable.spare (switchable.entry 0) = some 4) := by
  decide +kernel

/-- WEFT_RELEASE at 640 and WEFT_SELECT at 800 for each state of the finger, with a pick to serve and with none, with a dead time and with
none; the last step of a dead time, with a pick due and with none; a weft that switches; a step that completes no dead time. -/
theorem witness_FingerEvents :
    (let s := runAt shed 639
     let on := fun f : Finger => { s with wsu.finger := f }
     s.stu.weaving = .running ∧ s.stu.firedAt (s.stu.position + 1).val = [.weftRelease] ∧ s.wsu.finger = .off ∧
       (on (.engaged 0)).wsu.finger = .engaged 0 ∧ (on (.engaged 5)).wsu.finger = .engaged 5 ∧ s.weftAnswer = some 0 ∧
       s.wsu.isReady (s.wsu.entry 0).selected = true ∧ (s.wsu.entry 0).selected = 0 ∧ { s with pq.steps := [] }.weftAnswer = none) ∧
    (let s := waitingAt 639 { dead := 9, count := 7 }
     s.stu.firedAt (s.stu.position + 1).val = [.weftRelease] ∧ s.wsu.finger = .waiting 0 false ∧ s.wsu.release = some ⟨9, 7⟩ ∧
       ¬ 9 ≤ min (7 + 1) 255 ∧ s.weftAnswer = some 0) ∧
    (let s := runAt shed 799
     let on := fun f : Finger => { s with wsu.finger := f }
     s.stu.firedAt (s.stu.position + 1).val = [.weftSelect] ∧ s.wsu.release = none ∧ s.pickDue.weft? = some 0 ∧ s.wsu.finger = .off ∧
       (on (.engaged 0)).wsu.finger = .engaged 0 ∧ (on (.engaged 5)).wsu.finger = .engaged 5 ∧ 0 < s.stu.active.dead ∧
       ({ s with stu.active.dead := 0 }).stu.active.dead = 0 ∧
       { runAt base 799 with pq.steps := [] }.pickDue.weft? = none) ∧
    (let s := waitingAt 799 { dead := 9, count := 7 }
     s.stu.firedAt (s.stu.position + 1).val = [.weftSelect] ∧ s.wsu.finger = .waiting 0 false ∧ s.wsu.release = some ⟨9, 7⟩ ∧
       s.pickDue.weft? = some 0 ∧ { s with ph.shed := none, pq.steps := [] }.pickDue.weft? = none) ∧
    (let s := waitingFor { dead := 255, count := 254 }
     s.stu.firedAt (s.stu.position + 1).val = [] ∧ s.wsu.finger = .waiting 0 false ∧ s.wsu.release = some ⟨255, 254⟩ ∧
       s.pickDue.weft? = some 0 ∧ { s with ph.shed := none, pq.steps := [] }.pickDue.weft? = none) ∧
    (let s := { runAt shed 799 with wsu := switchable }
     s.wsu.isReady (s.wsu.entry 0).selected = false ∧ (s.wsu.entry 0).alternate = some 4 ∧ s.wsu.isReady 4 = true) ∧
    base.stu.weaving ≠ .running := by decide +kernel

/-- A WAITING engagement with one step to run after the next. -/
theorem witness_DeadTimeHolds :
    let r : Release := { dead := 3, count := 1 }
    let s := { runAt shed 900 with wsu := { shed.wsu with finger := .waiting 0 false, release := some r } }
    DeadTimeRuns s ∧ (∀ held b, Instr.forwardStep 0 ≠ .llByteGap held b) ∧ exec (.forwardStep 0) s = .next (after (.forwardStep 0) s) ∧
    (after (.forwardStep 0) s).stu.weaving = .running :=
  ⟨⟨rfl, nofun, _, rfl, by decide⟩, nofun, rfl, by decide +kernel⟩

/-- The five cases: a pick left; a PENDING record after it; the end asked for; n below 4095; n at 4095. A shed; no shed with a PENDING
record and with none; a staging record; a shed that has its channel. -/
theorem witness_SuccessorCases :
    (let s := stepIn 0 .opened
     2 + 1 < s.picks ∧
     (¬ 3 + 1 < s.picks ∧ (stepsAfter [s, stepIn 1 .waiting] 0).find? (fun r => r.state = .waiting) = some (stepIn 1 .waiting)) ∧
     ((stepsAfter [s] 0).find? (fun r => r.state = .waiting) = none ∧ ({ s with stopAtEnd := true }).stopAtEnd = true) ∧
     (s.stopAtEnd = false ∧ ({ s with n := 4094 }).n < 4095 ∧ ¬ ({ s with n := 4095 }).n < 4095)) ∧
    (shed.ph.shed = some (pick 0) ∧ shed.step? 0 = some (stepIn 0 .opened) ∧ (pick 0).channel = none) ∧
    (let s := { base with pq.steps := [stepIn 0 .waiting] }
     s.ph.shed = none ∧ s.pq.steps.find? (fun r => r.state = .waiting) = some (stepIn 0 .waiting) ∧ s.nextAnswer = .pick 0 0 false ∧
       s.step? 0 = some (stepIn 0 .waiting)) ∧
    (base.ph.shed = none ∧ base.pq.steps.find? (fun r => r.state = .waiting) = none ∧ base.nextAnswer = .noSuccessor) ∧
    (staged base begun).pcm.staging = some ⟨pick 0, begun⟩ ∧
    ({ pick 0 with channel := some 3 }).channel ≠ none := by decide +kernel

/-- COMPOSE at 64: let pass with a record and with a shed marked last, no successor, the next pick of an OPEN step, a step that runs short,
and a record served already, whose weft stays and whose weft switches, with a dead time to wait for and with none. -/
theorem witness_ComposeDelivered :
    let s := runAt shed 63
    (s.stu.weaving = .running ∧ s.stu.firedAt (s.stu.position + 1).val = [.compose] ∧ s.wsu.release = none ∧
      (staged s (.composed [])).pcm.staging.isSome = true ∧ ({ s with pcm.marked := true }).pcm.marked = true ∧ s.pcm.staging = none ∧
      s.pcm.marked = false ∧ { s with pq.steps := [] }.nextAnswer = .noSuccessor ∧
      s.nextAnswer = .pick 0 1 false ∧ s.step? 0 = some (stepIn 0 .opened) ∧ (stepIn 0 .opened).state ≠ .waiting ∧
      s.wsu.servedG ≠ some s.nextG) ∧ (∀ c b, s.wsu.finger ≠ .waiting c b) ∧
    { s with ph.shed := some (pick 3) }.nextAnswer = .pick 0 4 true ∧
    (let u := { s with wsu := { s.wsu with finger := .engaged 0, servedG := some 1 } }
     (pick 0).g + 1 = 1 ∧ u.wsu.servedG = some 1 ∧ u.wsu.finger = .engaged 0 ∧ u.wsu.isReady (u.wsu.entry 0).selected = true) ∧
    (let u := { s with wsu := { switchable with finger := .engaged 0, servedG := some 1 } }
     u.wsu.isReady (u.wsu.entry 0).selected = false ∧ (u.wsu.entry 0).alternate = some 4 ∧ u.wsu.isReady 4 = true ∧
       0 < s.stu.active.dead ∧ ({ u with stu.active.dead := 0 }).stu.active.dead = 0 ∧ ({ pick 0 with channel := some 3 }).channel ≠ none) :=
  ⟨by decide +kernel, nofun, by decide +kernel, by decide +kernel, by decide +kernel⟩

/-- The first step of a program opens; below the watermark and not. The next step after the last pick of the shed's. -/
theorem witness_StepOpens :
    (let s := runAt { base with pq.steps := [stepIn 0 .waiting] } 63
     s.stu.weaving = .running ∧ s.stu.firedAt (s.stu.position + 1).val = [.compose] ∧ s.wsu.finger = .off ∧ s.wsu.release = none ∧
     s.pcm.staging = none ∧ s.pcm.marked = false ∧ s.ph.shed = none ∧ s.pq.steps = [] ++ stepIn 0 .waiting :: [] ∧
     (stepIn 0 .waiting).state = .waiting ∧ countSteps [] .waiting < s.pq.watermark ∧
     ({ s with pq.watermark := 0 }).pq.watermark ≤ countSteps [] .waiting) ∧
    (let s := runAt { shed with pq.steps := [stepIn 0 .opened, stepIn 1 .waiting], ph.shed := some (pick 3) } 63
     s.ph.shed = some (pick 3) ∧ s.step? (pick 3).seq = some (stepIn 0 .opened) ∧ stepIn 0 .opened ∈ [stepIn 0 .opened] ∧
     (stepIn 0 .opened).n * (stepIn 0 .opened).period * (stepIn 0 .opened).p ≤ (pick 3).t + 1 ∧
     s.pq.steps = [stepIn 0 .opened] ++ stepIn 1 .waiting :: [] ∧ (stepIn 0 .opened).seq ≠ (stepIn 1 .waiting).seq) := by decide +kernel

theorem limited_sectionsApart : SectionsApart limited := by
  constructor
  · intro i j hi hj hij
    have all : ∀ a b : Fin 8, a.val ≠ b.val → (limited.section a.val).overlaps (limited.section b.val) = false := by decide +kernel
    exact all ⟨i, hi⟩ ⟨j, hj⟩ hij
  · intro i hi hc h hh
    have all : ∀ a : Fin 8, 0 < (limited.section a.val).c →
        (limited.section a.val).f + (limited.section a.val).c ≤ 6 := by decide +kernel
    have last : (limited.section i).f + (limited.section i).c ≤ 6 := all ⟨i, hi⟩ hc
    have within : h < (limited.section i).f + (limited.section i).c := (of_decide_eq_true hh).2
    have hooks : ∀ a : Fin 6, limited.hookExists a.val = true := by decide +kernel
    exact hooks ⟨h, by omega⟩

/-- A composition in flight, hook 0 in a PARKED and in a FIXED section, hook 12287 in none; sections apart under both limits, a hook barred and
not; its end with a transfer due; TRANSFER at 320 with a record COMPOSED and with none. -/
theorem witness_CompositionEnds :
    (let fixed : Section := { Section.powerOn with c := 1, mode := .fixed }
     let s := { staged base begun with pcm := { (staged base begun).pcm with sections := tabSet base.pcm.sections 7 fixed } }
     s.pcm.staging = some ⟨pick 0, begun⟩ ∧ (s.stu.weaving ≠ .running ∨ s.hcu.transferDue = false) ∧
     (∀ i : Nat, i < 8 → (s.section i).covers 12287 = false) ∧ (s.section 7).covers 0 = true ∧
     (∀ j : Nat, j < 8 → j ≠ 7 → (s.section j).covers 0 = false) ∧ (s.section 7).mode = .fixed ∧ (s.section 7).lw = 0 ∧
     ¬ (s.flm.lwarp ≠ 0 ∧ runOf s.flm.runs 0 = s.flm.lwarp) ∧ ({ fixed with mode := .parked }).mode = .parked ∧
     (s.weave 0).bit (0 % (s.weave 0).wh) (0 % (s.weave 0).ww) = false ∧ ({ ww := 1, wh := 1, rows := [0x80000000] } : Weave).bit 0 0 = true) ∧
    (SectionsApart limited ∧ limited.pcm.staging = some ⟨pick 0, begun⟩ ∧ (limited.section 0).covers 2 = true ∧
      (limited.section 0).mode = .fixed ∧ limited.flm.lwarp ≠ 0 ∧ runOf limited.flm.runs 2 = limited.flm.lwarp ∧
      runOf limited.flm.runs 3 ≠ limited.flm.lwarp ∧ (limited.section 0).lw ≠ 0 ∧ ∀ j : Nat, j < 8 → j ≠ 0 → (limited.section j).covers 2 = false) ∧
    (let s := { staged (runAt base 400) begun with hcu.transferDue := true }
     s.pcm.staging = some ⟨pick 0, begun⟩ ∧ s.stu.weaving = .running ∧ s.hcu.transferDue = true ∧ s.shifting .transfer = false) ∧
    (let s := staged (runAt base 319) (.composed [])
     s.stu.weaving = .running ∧ s.stu.firedAt (s.stu.position + 1).val = [.transfer] ∧ s.wsu.finger = .off ∧ s.wsu.release = none ∧
     s.pcm.staging = some ⟨pick 0, .composed []⟩ ∧ s.shifting .transfer = false ∧ (runAt base 319).pcm.staging = none) :=
  ⟨by decide +kernel, ⟨limited_sectionsApart, by decide +kernel⟩, by decide +kernel⟩

/-- The last hook of a DESIGN section, at the warp limit and not, its bit raised and not; no read taken, and both. -/
theorem witness_DesignHookLift :
    let sec : Section := { Section.powerOn with f := 8, c := 120, mode := .design }
    let s := { staged base begun with pcm := { (staged base begun).pcm with sections := tabSet base.pcm.sections 0 sec } }
    s.pcm.staging = some ⟨pick 0, .composing ⟨none, []⟩⟩ ∧
    (let slots : List (Option Slot) := [some ⟨0, 0, 0, true⟩]
     ({ s with pcm.staging := some ⟨pick 0, .composing ⟨some slots, [[]]⟩⟩ }).pcm.staging = some ⟨pick 0, .composing ⟨some slots, [[]]⟩⟩ ∧
       ((s.weave 0).bit 0 0 != true) = true) ∧
    ({ s with flm := { lwarp := 2, runs := [(127, 2)] } }).flm.lwarp ≠ 0 ∧ runOf [(127, 2)] 127 = 2 ∧ s.step? (pick 0).seq = some (stepIn 0 .opened) ∧
    s.design? (stepIn 0 .opened).design = some design ∧ 0 < design.w ∧ (s.section 0).covers 127 = true ∧
    (∀ j : Nat, j < 8 → j ≠ 0 → (s.section j).covers 127 = false) ∧ (s.section 0).mode = .design ∧ (s.section 0).lw = 0 ∧
    s.flm.lwarp = 0 := by decide +kernel

/-- Three lowered hooks under a limit of two, none barred; a raised hook; and the third barred. -/
theorem witness_WeftScanLimitsFloats :
    let x := weftScan 2 (fun _ => false) 0 0 [false, false, false]
    ([false, false, false] : List Bool)[2]? = some false ∧ ([true] : List Bool)[0]? = some true ∧ x.bits[2]? = some true ∧ x.unresolved = 0 ∧
    0 + 2 < [false, false, false].length ∧ (weftScan 2 (fun h => h == 2) 0 0 [false, false, false]).unresolved = 1 := by
  decide +kernel

/-- A TRANSFERRED record at LATCH 768, with and without a shed; run counters at the cap; a ring of 96 whose oldest record is the last of a
CLOSED step; an old shed of the same step and of another; the last count before an aging pass. -/
theorem witness_PickLatch :
    let s := staged (runAt { shifting .transfer with ph := shed.ph, flm.runs := [(0, 32), (12287, 1)] } 767) (.transferred [])
    (s.stu.weaving = .running ∧ s.stu.firedAt (s.stu.position + 1).val = [.latch] ∧ s.pcm.staging = some ⟨pick 1, .transferred []⟩ ∧
      RunsWithin s.flm.lwarp s.flm.runs ∧
      (s.chain 0).state = .active ∧ (s.chain 0).shift = some ⟨.transfer, 2, false⟩ ∧ s.ph.shed = some (pick 0) ∧
      ({ s with ph.shed := none }).ph.shed = none ∧ s.ph.ring.length < 96 ∧ s.ph.ring.length ≤ 96 ∧ (pick 0).seq = (pick 1).seq ∧
      ({ pick 0 with seq := 7 }).seq ≠ (pick 1).seq ∧
      (let ring := { pick 0 with seq := 9 } :: List.replicate 95 (pick 0)
       let u := { s with pq.steps := stepIn 9 .closed :: s.pq.steps, ph.ring := ring }
       u.ph.ring.length = 96 ∧ (u.ph.ring.head?.map (·.seq)) = some 9 ∧ (∀ q ∈ (u.ph.ring ++ [pick 0]).drop 1, q.seq ≠ 9) ∧
         u.step? 9 = some (stepIn 9 .closed)) ∧
      s.hft.agingCounter + 1 < s.hft.agingPeriod ∧
      (let u := { s with hft.agingCounter := 4095 }; u.hft.agingPeriod ≤ u.hft.agingCounter + 1)) ∧ ∀ c b, s.wsu.finger ≠ .waiting c b :=
  ⟨by decide +kernel, nofun⟩

/-- A record still TRANSFERRING at LATCH; with the chain's marker already shown and not. -/
theorem witness_PatternLate :
    let s := staged (runAt (shifting .transfer) 767) (.transferring [])
    (s.stu.weaving = .running ∧ s.stu.firedAt (s.stu.position + 1).val = [.latch] ∧
      s.pcm.staging = some ⟨pick 0, .transferring []⟩ ∧ s.llp.queue.length < 15 ∧
      (1 : BitVec 4).getLsbD 0 = true ∧ (s.chain 0).shift = some ⟨.transfer, 2, false⟩ ∧
      ∀ i : Nat, i < 4 → ¬ (0 : BitVec 4).getLsbD i = true) ∧ (∀ c b, s.wsu.finger ≠ .waiting c b) ∧
    ∀ runs, (⟨pick 0, .transferring []⟩ : Staging).phase ≠ .transferred runs :=
  ⟨by decide +kernel, nofun, nofun⟩

/-- LATCH at program end with a shed and without, the ring full and not, and LATCH with nothing to latch. -/
theorem witness_ProgramEndLatch :
    let s := runAt { shed with pcm.programEnd := true, flm.runs := [(5, 32)] } 767
    (s.stu.weaving = .running ∧ s.stu.firedAt (s.stu.position + 1).val = [.latch] ∧ s.pcm.staging = none ∧ s.llp.queue.length < 16 ∧
      s.pcm.programEnd = true ∧ RunsWithin s.flm.lwarp s.flm.runs ∧ s.ph.shed = some (pick 0) ∧ s.ph.ring.length < 96 ∧
      ({ s with ph.ring := List.replicate 96 (pick 0) }).ph.ring.length = 96 ∧ ({ s with ph.shed := none }).ph.shed = none ∧
      (runAt shed 767).pcm.programEnd = false ∧ s.wsu.release = none) ∧ ∀ c b, s.wsu.finger ≠ .waiting c b :=
  ⟨by decide +kernel, nofun⟩

/-- The last hook of chain 0: its own value, a STATIC key, a substitute of a key that exists; and a hook of a chain that is not ACTIVE. -/
theorem witness_DriveMapping :
    (base.hookExists 127 = true ∧ (base.chain 0).state = .active ∧ base.hft.find 127 = none ∧ base.hft.substituted 127 = none) ∧
    (let e : FaultEntry := { hook := 5, kind := .fixed (.substitute 127), count := 0, sense := none }
     let s := { base with hft.entries := [e] }
     s.hft.find 5 = some e ∧ e.isLearned = false ∧ s.hft.find 127 = none ∧ s.hft.substituted 127 = some e) ∧
    (probed.hookExists 3072 = true ∧ (probed.chain (3072 / 3072)).state ≠ .active) := by decide +kernel

/-- Echoes of two modules with the marker in place, with none, and with one that comes early as well. -/
theorem echoes : SoundEcho 128 0 (echoOf 0) .marker ∧ SoundEcho 128 (1#3072 <<< 127) (echoOf (1#3072 <<< 127)) .marker ∧
    FailedEcho 128 (echoOf 0) (.level false) ∧ FailedEcho 128 (.marker :: (echoOf 0).tail) .marker := by
  unfold SoundEcho FailedEcho
  exact ⟨by decide +kernel, by decide +kernel, by decide +kernel, by decide +kernel⟩

/-- A transfer with the echo as the image and with hook 127 sensed otherwise, the table without an entry of the hook, with a LEARNED and a
STATIC one, with one it serves, and full; a re-presentation that ends with the chain and one that another chain still shifts for; a
presentation of the shed that stands and of one that has changed. -/
theorem witness_ChainCompletes :
    (let s := staged (shifting .transfer) (.transferring [])
     let with_ := fun l => { s with hft.entries := l }
     let e := fun h a => ({ hook := h, kind := .fixed a, count := 0, sense := none } : FaultEntry)
     (s.chain 0).modules * 64 = 128 ∧ (s.chain 0).shift = some ⟨.transfer, 2, false⟩ ∧ s.pcm.staging = some ⟨pick 0, .transferring []⟩ ∧
     (∀ i : Nat, i < 128 → (0 : Share).getLsbD i = (s.chain 0).image.getLsbD i) ∧
     (∀ j : Nat, j < 128 → ((1#3072 <<< 127).getLsbD j ≠ (s.chain 0).image.getLsbD j ↔ j = 127)) ∧
     s.llp.queue.length < 16 ∧ s.hft.entries.Pairwise (fun x y => x.hook < y.hook) ∧ 0 < s.hft.threshold ∧
     (s.hft.find 127 = none ∧ s.hft.substituted 127 = none ∧ s.hft.entries.length < 128) ∧
     (with_ [learnt 127 true]).hft.find 127 = some (learnt 127 true) ∧
     (with_ [e 127 .park]).hft.find 127 = some (e 127 .park) ∧
     ((with_ [e 5 (.substitute 127)]).hft.find 127 = none ∧ ((with_ [e 5 (.substitute 127)]).hft.substituted 127).isSome = true) ∧
     (let full := with_ ((List.range 128).map fun i => learnt (200 + i) true)
      full.hft.find 127 = none ∧ full.hft.substituted 127 = none ∧ 128 ≤ full.hft.entries.length)) ∧
    (let s := representing 0
     (s.chain 0).shift = some ⟨.representation, 2, false⟩ ∧ s.ph.representing = some ⟨0, 0⟩ ∧ s.stu.weaving ≠ .running ∧
     s.pcm.staging = none ∧ s.llp.queue.length < 16 ∧ (∀ i : Nat, i < 4 → i ≠ 0 → (s.chain i).shift = none) ∧
     (representing 2).ph.representing = some ⟨0, 2⟩ ∧
     (let u := { s with hcu.chains := tabSet s.hcu.chains 1 (s.chain 0) }
      (u.chain 1).shift = some ⟨.representation, 2, false⟩)) ∧
    (let s := presenting 0
     (s.chain 1).shift = some ⟨.presentation, 2, false⟩ ∧ s.hcu.probing = some ⟨1, some 0, 0⟩ ∧ s.ph.shed = some (pick 0) ∧
     (presenting 5).hcu.probing = some ⟨1, some 5, 0⟩) := by decide +kernel

/-- A transfer cut in RUNNING and one cut in STOPPED; a re-presentation that another chain still shifts for and one that ends; a
presentation; an echo of another length. -/
theorem witness_ChainFailsMarkerCheck :
    (let s := staged (runAt (shifting .transfer) 100) (.transferring [])
     s.stu.weaving = .running ∧ (s.chain 0).shift = some ⟨.transfer, 2, false⟩ ∧ s.pcm.staging = some ⟨pick 0, .transferring []⟩ ∧
     s.llp.queue.length < 16 ∧ (shifting .transfer).stu.weaving = .stopped ∧ (s.chain 0).modules * 64 = 128) ∧
    (let s := representing 0
     (s.chain 0).shift = some ⟨.representation, 2, false⟩ ∧ s.ph.representing = some ⟨0, 0⟩ ∧ s.stu.weaving ≠ .running ∧
     s.pcm.staging = none ∧ s.llp.queue.length < 16 ∧ (∀ i : Nat, i < 4 → i ≠ 0 → (s.chain i).shift = none) ∧
     (let u := { s with hcu.chains := tabSet s.hcu.chains 1 (s.chain 0) }
      (u.chain 1).shift = some ⟨.representation, 2, false⟩)) ∧
    (let s := presenting 0
     (s.chain 1).shift = some ⟨.presentation, 2, false⟩ ∧ s.hcu.probing = some ⟨1, some 0, 0⟩) ∧
    ([] : List ChainValue).length ≠ 2 * 64 ∧ (probed.chain 1).shift = some ⟨.probe, 0, false⟩ := by decide +kernel

/-- Fields at their bounds; a conflict of CHAIN_CONFIG with a section's last hook; a chain that may be probed and one that may not. -/
theorem witness_ChainCommands :
    base.dlp.work = none ∧ base.pcm.staging = none ∧ (3 : Byte).toNat < 4 ∧ (48 : Byte).toNat ≤ 48 ∧ (64 : Byte).toNat ≤ 64 ∧
    ¬ (49 : Byte).toNat ≤ 48 ∧ 4 ≤ (4 : Byte).toNat ∧ base.stu.weaving = .stopped ∧ base.ph.representing = none ∧
    (let sec : Section := { Section.powerOn with f := 127, c := 1 }
     sec ∈ (tabSet base.pcm.sections 0 sec).toList ∧ sec.covers 127 = true ∧ 0 * 3072 + 1 * 64 ≤ 127) ∧
    (base.chain 0).state = .active ∧
    ({ base with hcu.chains := tabSet base.hcu.chains 1 (chainIn .isolated) }.chain 1).state = .isolated ∧
    (staged (shifting .transfer) (.transferring [])).dlp.work = none ∧ (staged (shifting .transfer) (.transferring [])).stu.weaving = .stopped ∧
    (State.discarded (staged (shifting .transfer) (.transferring []))).shifting .transfer = false := by decide +kernel

/-- The count M with and without a shed, the markers at 3 and at 49 × 64 + 1, and the counts 0 and 48. -/
theorem witness_ProbeCountEnds :
    let pr : Probe := { chain := 1, presented := none, mismatches := 0 }
    probed.hcu.probing = some pr ∧ (probed.chain 1).shift = some { work := .probe, drive := 0, done := false } ∧
    2 * 64 + 1 = (probed.chain 1).modules * 64 + 1 ∧ (probed.chain 1).modules ≤ 48 ∧ probed.ph.shed = none ∧
    ({ probed with ph := shed.ph }).ph.shed = some (pick 0) ∧ (3 - 1) % 64 ≠ 0 ∧ 48 < (49 * 64 + 1 - 1) / 64 ∧
    0 ≠ (probed.chain 1).modules ∧ 48 ≠ (probed.chain 1).modules := by decide +kernel

/-- Hook numbers at their bounds; a substitute that another entry serves; a full table; an entry to remove; no record, one COMPOSING, one
COMPOSED, in STOPPED and in RUNNING with and without a successor, the new record served already on its channel and on another. -/
theorem witness_FaultEntryCommands :
    faulty.dlp.work = none ∧ faulty.pcm.staging = none ∧ (staged faulty begun).pcm.staging = some ⟨pick 0, begun⟩ ∧
    (staged faulty (.composed [])).pcm.staging = some ⟨pick 0, .composed []⟩ ∧ faulty.stu.weaving ≠ .running ∧
    (let s := staged (runAt { faulty with ph := shed.ph } 100) (.composed [])
     s.stu.weaving = .running ∧ s.discarded.nextAnswer = .pick 0 1 false ∧ s.discarded.step? 0 = some (stepIn 0 .opened) ∧ s.wsu.servedG = none ∧
     (let u := { s with wsu := { switchable with finger := .engaged 0, servedG := some 1 } }
      u.discarded.wsu.servedG = some ((pick 0).g + 1) ∧ u.discarded.wsu.finger = .engaged 0 ∧ u.wsu.isReady 0 = false ∧ u.wsu.isReady 4 = true ∧
        0 < u.stu.active.dead) ∧
     ({ s with wsu := { s.wsu with finger := .engaged 0, servedG := some 1 } }).wsu.isReady 0 = true) ∧
    (let s := staged (runAt { faulty with ph.shed := some (pick 3), pq.steps := [{ stepIn 0 .opened with stopAtEnd := true }] } 100) (.composed [])
     s.stu.weaving = .running ∧ s.discarded.nextAnswer = .noSuccessor) ∧ (12287 : BitVec 16).toNat < 12288 ∧ 12288 ≤ (12288 : BitVec 16).toNat ∧
    faulty.hft.find 5 = some (learnt 5 true) ∧ faulty.hft.find 7 = none ∧ faulty.hft.entries.length < 128 ∧
    128 ≤ ((List.range 128).map fun h => learnt h true).length ∧
    (let e : FaultEntry := { hook := 5, kind := .fixed (.substitute 127), count := 0, sense := none }
     e.hook ≠ 127 ∧ e.spare = some 127) ∧ (faulty.hookExists 127 = true ∧ faulty.hookExists 128 = false) := by decide +kernel

theorem witness_FaultTableCommands :
    faulty.dlp.work = none ∧ faulty.hft.entries = learnt 5 true :: [learnt 9 false] ∧ base.hft.entries = [] ∧
    faulty.hft.position = none ∧
    (let s := { faulty with hft.position := some 5 }
     s.hft.position = some 5 ∧ (s.hft.entries.find? fun x => 5 < x.hook) = some (learnt 9 false)) ∧
    (∀ e ∈ faulty.hft.entries, ¬ 9 < e.hook) ∧ 2 ≤ (2 : Byte).toNat := by decide +kernel

/-- Fields and rows at their bounds; a counter value that a record carries; a full queue with and without a CLOSED record. -/
theorem witness_StepAppend :
    (base.dlp.work = none ∧ base.design? 0 = some design ∧ base.design? 15 = none ∧ (4095 : BitVec 16).toNat ≤ 4095 ∧
      (3 : BitVec 16).toNat < design.h ∧ ¬ (4 : BitVec 16).toNat < design.h ∧ base.pq.steps.length < 32) ∧
    (let q := [stepIn 1 .waiting]
     (∀ j : Nat, j < 1 → ∃ x ∈ q, x.seq = base.pq.counter + BitVec.ofNat 16 j) ∧ ∀ x ∈ q, x.seq ≠ base.pq.counter + BitVec.ofNat 16 1) ∧
    (let rest := (List.range 31).map fun i => stepIn (BitVec.ofNat 16 (i + 10)) .waiting
     rest.length = 31 ∧ (stepIn 0 .closed).state = .closed ∧ ∀ y ∈ rest, y.seq ≠ 0#16) ∧
    (let full := (List.range 32).map fun i => stepIn (BitVec.ofNat 16 i) .waiting
     32 ≤ full.length ∧ ∀ x ∈ full.head?.toList, x.state ≠ .closed) := by decide +kernel

/-- A seq no record carries, a record that is OPEN and one that is PENDING, with a record COMPOSED and without; indexes 31 and 32. -/
theorem witness_QueueCommands :
    let s := { base with pq.steps := [stepIn 0 .opened, stepIn 1 .waiting] }
    (staged s (.composed [])).pcm.staging = some ⟨pick 0, .composed []⟩ ∧ (staged s (.composed [])).stu.weaving ≠ .running ∧
    s.dlp.work = none ∧ s.pcm.staging = none ∧ (∀ x ∈ s.pq.steps, x.seq ≠ 2#16) ∧
    s.pq.steps = [stepIn 0 .opened] ++ stepIn 1 .waiting :: [] ∧ (∀ x ∈ [stepIn 0 .opened], x.seq ≠ (stepIn 1 .waiting).seq) ∧
    (stepIn 1 .waiting).state = .waiting ∧ (stepIn 0 .opened).state ≠ .waiting ∧ 31 < (32 : Byte).toNat ∧
    ((31 : Byte).toNat ≤ 31 ∧ s.pq.steps.length ≤ (31 : Byte).toNat) ∧ s.pq.steps[(1 : Byte).toNat]? = some (stepIn 1 .waiting) := by
  decide +kernel

/-- `base` keeps one design of four blocks, so its directory is sound. -/
theorem base_directory (i : Nat) (d : Design) (h : base.design? i = some d) : i = 0 ∧ d = design := by
  by_cases hi : i < 16
  · have all : ∀ j : Fin 16, (base.design? j.val).all (fun x => decide (j.val = 0 ∧ x = design)) = true := by decide +kernel
    have := all ⟨i, hi⟩
    simp only [h, Option.all_some, decide_eq_true_eq] at this
    exact this
  · have none : base.design? i = none := by
      show (_[i]?).getD _ = _
      rw [Vector.getElem?_eq_none (by omega)]
      rfl
    rw [none] at h
    cases h

theorem base_directorySound : DirectorySound base := by
  intro i j d e hi hj
  obtain ⟨rfl, rfl⟩ := base_directory i d hi
  obtain ⟨rfl, rfl⟩ := base_directory j e hj
  exact ⟨by decide, fun h => absurd rfl h⟩

/-- The sizes at their bounds; the first fit after design 0; a clearing in progress, and none. -/
theorem witness_DesignDefine :
    DirectorySound base ∧ base.dlp.work = none ∧ (base.design? 0).isSome = true ∧ base.design? 15 = none ∧
    ((6144 : BitVec 16).toNat ≤ 6144 ∧ (16384 : BitVec 16).toNat ≤ 16384) ∧
    (4 + 1 * ((5 + 511) / 512) ≤ 65536 ∧ ∀ b, 4 ≤ b → b < 5 → ¬ ∃ i d, base.design? i = some d ∧ d.base ≤ b ∧ b < d.base + d.h * ((d.w + 511) / 512)) ∧
    (busyWith base (.define 0)).dlp.work = some (.define 0) ∧ (busyWith base (.define 0)).design? 0 = some design ∧
    ∀ i, base.dlp.work ≠ some (.define i) := by
  refine ⟨base_directorySound, rfl, by decide +kernel, by decide +kernel, by decide, ⟨by decide, ?_⟩, rfl, by decide +kernel, nofun⟩
  rintro b h4 h5 ⟨i, d, hd, -, hb⟩
  obtain ⟨rfl, rfl⟩ := base_directory i d hd
  have : b < 0 + 4 * ((5 + 511) / 512) := hb
  omega

/-- A define of 6144 by 16384 cells fits nowhere. -/
theorem witness_DesignDefine_noSpace : ∀ start : Nat, ¬ start + 16384 * ((6144 + 511) / 512) ≤ 65536 := by
  intro start
  omega

/-- A design that a record names, one that none names, and none at all; ids 15 and 16. -/
theorem witness_DesignRecordsAndFreeSpace :
    DirectorySound base ∧ base.dlp.work = none ∧ 16 ≤ (16 : Byte).toNat ∧ (15 : Byte).toNat < 16 ∧ base.design? 15 = none ∧
    (base.design? 0).isSome = true ∧ (∃ r ∈ base.pq.steps, r.design = 0) ∧
    ¬ ∃ r ∈ ({ base with pq.steps := [] }).pq.steps, r.design = 0 :=
  ⟨base_directorySound, rfl, by decide, by decide, by decide +kernel, by decide +kernel, by decide +kernel, by decide +kernel⟩

/-- Codes and ranges at their bounds and past them. -/
theorem witness_WindowAndCursor :
    base.dlp.work = none ∧ base.design? 0 = some design ∧ base.design? 15 = none ∧ (1 : Byte).toNat ≤ 1 ∧ ¬ (2 : Byte).toNat ≤ 1 ∧
    ((0 : BitVec 16).toNat ≤ (4 : BitVec 16).toNat ∧ (4 : BitVec 16).toNat < design.w ∧ (3 : BitVec 16).toNat < design.h) ∧
    ¬ (5 : BitVec 16).toNat < design.w := by decide +kernel

/-- A window on a live design that is locked, and on one that is not live; counts 1, 2048 and 2049; no window; a record of the window's design,
COMPOSING and COMPOSED, one of another design, and none. -/
theorem witness_CellWrites :
    let s := windowed
    ((staged s begun).pcm.staging = some ⟨pick 0, begun⟩ ∧ (staged s (.composed [])).pcm.staging = some ⟨pick 0, .composed []⟩ ∧
      (s.step? (pick 0).seq).map (·.design) = some 0 ∧
      (({ s with pq.steps := [{ stepIn 0 .opened with design := 1 }] }).step? (pick 0).seq).map StepRec.design ≠ some 0) ∧
    s.dlp.work = none ∧ s.pcm.staging = none ∧ CellsCanonical s ∧ base.ps.window = none ∧ s.ps.window.isSome = true ∧
    s.design? 0 = some design ∧ ([0x10#8] : List Byte).length = ((1 : BitVec 16).toNat + 1) / 2 ∧ 1 ≤ (1 : BitVec 16).toNat ∧
    (2048 : BitVec 16).toNat ≤ 2048 ∧ ¬ (2049 : BitVec 16).toNat ≤ 2048 ∧
    (∃ r ∈ s.pq.steps, r.design = 0 ∧ (r.state = .opened ∨ r.state = .closed)) ∧ design.liveEdit = true ∧
    ({ design with liveEdit := false }).liveEdit = false := by decide +kernel

theorem witness_CellReadsAndSum :
    windowed.dlp.work = none ∧ base.ps.window = none ∧ windowed.ps.window.isSome = true ∧ windowed.design? 0 = some design ∧
    1 ≤ (2048 : BitVec 16).toNat ∧ (2048 : BitVec 16).toNat ≤ 2048 ∧ 16 ≤ (16 : Byte).toNat ∧ base.design? 15 = none ∧
    (let s := busyWith base (.sum 0)
     s.dlp.work = some (.sum 0) ∧ s.design? 0 = some design ∧ 1 ≤ design.w ∧ CellsCanonical s) := by decide +kernel

/-- A weave in use by a locked design, by a FIXED section outside STOPPED and in STOPPED under a composition, by what a composition has read, and
by none; a design to map, live and not; a record of another design. -/
theorem witness_WeaveAndColourMapCommands :
    base.dlp.work = none ∧ base.pcm.staging = none ∧ (31 : Byte).toNat < 32 ∧ 32 ≤ (32 : Byte).toNat ∧ (32 : Byte).toNat ≤ 32 ∧
    ((after (.colormapWrite 0 15 #v[⟨1, 31, 2, 3, 1⟩, ⟨0, 0, 0, 0, 0⟩, ⟨0, 0, 0, 0, 0⟩, ⟨0, 0, 0, 0, 0⟩]) base).weaveInUse 31 = true) ∧
    ({ runAt base 0 with pcm.sections := tabSet base.pcm.sections 0 { Section.powerOn with c := 1, mode := .fixed } }.weaveInUse 0 = true) ∧
    ({ staged base begun with pcm := { (staged base begun).pcm with
        sections := tabSet base.pcm.sections 0 { Section.powerOn with c := 1, mode := .fixed } } }.weaveInUse 0 = true) ∧
    ((staged base (.composing { slots := some [some ⟨7, 0, 0, false⟩], rows := [] })).weaveInUse 7 = true) ∧
    (staged base (.composed [])).step? (pick 0).seq = some (stepIn 0 .opened) ∧ (stepIn 0 .opened).design ≠ 3 ∧
    base.weaveInUse 0 = false ∧ (15 : Byte).toNat < 16 ∧ base.design? 15 = none ∧ (base.design? 0).isSome = true ∧
    (∃ r ∈ base.pq.steps, r.design = 0 ∧ r.state = .opened) ∧ design.liveEdit = true := by decide +kernel

/-- A section up to the last hook of chain 0, one past it, and sections that share a hook. -/
theorem witness_SectionCommands :
    base.dlp.work = none ∧ base.pcm.staging = none ∧ (staged base (.composed [])).stu.weaving = .stopped ∧
    base.stu.weaving = .stopped ∧ (runAt base 0).stu.weaving ≠ .stopped ∧
    (7 : Byte).toNat < 8 ∧ 8 ≤ (8 : Byte).toNat ∧ (12287 : BitVec 16).toNat + (1 : BitVec 16).toNat ≤ 12288 ∧
    (6143 : BitVec 16).toNat < 6144 ∧ base.hookExists 127 = true ∧ base.hookExists 128 = false ∧
    ({ Section.powerOn with f := 127, c := 1 } : Section).covers 127 = true := by decide +kernel

/-- Counts and ages at their bounds; a record of age 0, and none of age 1; no shed. -/
theorem witness_LimitsAndRecords :
    shed.dlp.work = none ∧ shed.pcm.staging = none ∧ (staged shed begun).stu.weaving = .stopped ∧ shed.stu.weaving = .stopped ∧ (runAt shed 0).stu.weaving ≠ .stopped ∧
    ((512 : BitVec 16).toNat ≤ 512 ∧ (11776 : BitVec 16).toNat + (512 : BitVec 16).toNat ≤ 12288 ∧ ¬ (513 : BitVec 16).toNat ≤ 512) ∧
    ((96 : Byte).toNat ≤ 96 ∧ ¬ (97 : Byte).toNat ≤ 96 ∧ (4096 : BitVec 16).toNat ≤ 4096) ∧ shed.ph.shed = some (pick 0) ∧
    shed.ph.ring.reverse[(1 : Byte).toNat - 1]? = none ∧ base.ph.shed = none := by decide +kernel

theorem witness_WeftCommands :
    base.dlp.work = none ∧ (15 : Byte).toNat < 16 ∧ 16 ≤ (16 : Byte).toNat ∧ (8 : Byte).toNat ≤ 8 ∧
    (List.replicate 8 (7 : Byte)).length = (8 : Byte).toNat ∧ (∀ b ∈ List.replicate 8 (7 : Byte), b.toNat < 8) ∧ ¬ (8 : Byte).toNat < 8 := by
  decide +kernel

theorem witness_StatusEventsAndStatistics :
    base.dlp.work = none ∧ (0x8000 : BitVec 16).getLsbD 15 = true ∧ (0x7FFF : BitVec 16).getLsbD 15 = false ∧ 5 ≤ (5 : Byte).toNat := by
  decide +kernel

theorem witness_SoftReset : base.dlp.work = none ∧ (runAt base 0).stu.weaving ≠ .stopped ∧ base.stu.weaving = .stopped := by
  decide +kernel

/-- `base` composing pick 1 of step 0 after its pick 0 keeps its queue in order. -/
theorem queueSound_running : QueueSound (staged (runAt shed 100) (.composed [])) := by
  refine ⟨by decide +kernel, by decide +kernel, by decide +kernel, by decide +kernel, by decide +kernel, by decide +kernel, nofun, nofun⟩

/-- A FAULT_REMOVE that is accepted, the record in flight and COMPOSED; a command taken in STOPPED alone; in RUNNING the next pick of the
shed's step, and a step that opens again, with no shed and after the last pick of the shed's step. -/
theorem witness_StagingInvalidation :
    exec (.faultRemove 5) (staged faulty begun) = .next (after (.faultRemove 5) (staged faulty begun)) ∧
    (let s := staged faulty begun
     s.dlp.work = none ∧ s.pcm.staging = some ⟨pick 0, begun⟩ ∧
     (reply (after (.faultRemove 5) s)).map (·.1) = some .accept ∧ (5 : BitVec 16).toNat < 12288 ∧ s.hft.find 5 = some (learnt 5 true) ∧
     (reply (after (.floatLimits 0) s)).map (·.1) = some .accept ∧ (after (.chainProbe 1) s).dlp.work = none) ∧
    (let s := staged faulty (.composed [])
     s.pcm.staging = some ⟨pick 0, .composed []⟩ ∧ s.stu.weaving ≠ .running ∧ s.step? (pick 0).seq = some (stepIn 0 .opened)) ∧
    (let s := staged (runAt shed 100) (.composed [])
     s.stu.weaving = .running ∧ s.ph.shed = some (pick 0) ∧ (pick 0).channel = none ∧ s.step? 0 = some (stepIn 0 .opened) ∧
     0 + 1 < (stepIn 0 .opened).picks ∧ (reply (after (.weaveWrite 3 1 1 [0]) s)).map (·.1) = some .accept ∧ s.wsu.servedG = none) ∧
    (let s := staged (runAt faulty 100) (.composed [])
     s.stu.weaving = .running ∧ s.pq.steps = [] ++ stepIn 0 .opened :: [] ∧ (stepIn 0 .opened).seq = (pick 0).seq ∧ s.ph.shed = none ∧
     s.wsu.servedG = none) ∧
    (let s := staged (runAt { faulty with pq.steps := [stepIn 9 .opened, stepIn 0 .opened], ph.shed := some { pick 3 with seq := 9 } } 100)
       (.composed [])
     s.pq.steps = [stepIn 9 .opened] ++ stepIn 0 .opened :: [] ∧ s.ph.shed = some { pick 3 with seq := 9 } ∧
     s.step? 9 = some (stepIn 9 .opened) ∧ (stepIn 9 .opened).n * (stepIn 9 .opened).period * (stepIn 9 .opened).p ≤ 3 + 1) :=
  ⟨rfl, by decide +kernel⟩

/-- `base` with FIND in front of its queue. -/
theorem witness_StepKeepsRecordsWellFormed :
    let s := { base with pending := [.find] }
    RecordsWellFormed s ∧ ∃ t, step s = .next t :=
  ⟨⟨by decide +kernel, by decide +kernel, by decide +kernel, by decide +kernel, base_directorySound⟩, _, rfl⟩

/-- No staging record, so no staging run counter. -/
theorem witness_StepKeepsFloatsLimited :
    let s := { base with pending := [.find] }
    FloatsLimited s ∧ ∃ t, step s = .next t :=
  ⟨⟨Or.inl rfl, by decide +kernel, fun _ h => Option.noConfusion rfl (heq_of_eq (show (none : Option Staging) = some _ from h))⟩, _, rfl⟩

theorem witness_StepKeepsChainsSound :
    let s := { probed with pending := [.probeCountEnd (some 129)] }
    ChainsSound s ∧ ∃ t, step s = .next t := ⟨by decide +kernel, _, rfl⟩

theorem witness_StepKeepsPicksNumbered :
    let s := { shed with pending := [.find] }
    NumberedInOrder s ∧ QueueSound s ∧ ∃ t, step s = .next t := by
  refine ⟨⟨by decide +kernel, trivial, ?_, ?_⟩, ⟨by decide +kernel, by decide +kernel, by decide +kernel, by decide +kernel,
    by decide +kernel, by decide +kernel, nofun, nofun⟩, _, rfl⟩
  · intro h
    exact absurd (show (some (pick 0#32) : Option Pick) = none from h) (Option.some_ne_none _)
  · intro st h
    exact absurd (show (none : Option Staging) = some st from h) (Option.some_ne_none _).symm

theorem witness_StepKeepsSubstitutesFree :
    let s := { faulty with pending := [.faultRemove 5] }
    SubstitutesFree s ∧ ∃ t, step s = .next t := by
  refine ⟨⟨⟨?_, ?_⟩, by decide +kernel, ?_⟩, _, rfl⟩
  · intro i j hi hj _
    have all : ∀ a b : Fin 8, (faulty.section a.val).overlaps (faulty.section b.val) = false := by decide +kernel
    exact all ⟨i, hi⟩ ⟨j, hj⟩
  · intro i hi hc
    have all : ∀ a : Fin 8, (faulty.section a.val).c = 0 := by decide +kernel
    have none : (faulty.section i).c = 0 := all ⟨i, hi⟩
    exact absurd (show 0 < (faulty.section i).c from hc) (by omega)
  · intro e he x hx
    have none : ∀ e ∈ faulty.hft.entries, e.spare = none := by decide +kernel
    rw [none e he] at hx
    cases hx

end Sys2Proof.Tests
end

section
/-! The program queue: the successor of a pick (R32, R33), the pick due (R161). -/

namespace Sys2Proof.Machine.Program

open Sys2Proof Sys2Proof.Machine

/-- The five cases of R33 in their order. -/
theorem successorIn_cases (q : List StepRec) (r : StepRec) (t : Nat) :
    (t + 1 < r.picks → successorIn q r t = .pick r.seq (t + 1) false) ∧
    (¬ t + 1 < r.picks → ∀ x, firstPending (stepsAfter q r.seq) = some x → successorIn q r t = .pick x.seq 0 false) ∧
    (¬ t + 1 < r.picks → firstPending (stepsAfter q r.seq) = none →
      successorIn q r t =
        if r.stopAtEnd then .noSuccessor else if r.n < 4095 then .pick r.seq (t + 1) true else .noSuccessor) := by
  refine ⟨fun h => ?_, fun h x hx => ?_, fun h hx => ?_⟩
  · simp [successorIn, h]
  · simp [successorIn, h, hx]
  · simp [successorIn, h, hx]

/-- With a shed the question is for the successor of the shed pick (R32). -/
theorem nextAnswer_of_shed {s : State} {p : Pick} {r : StepRec} (hp : s.ph.shed = some p) (hr : s.step? p.seq = some r) :
    s.nextAnswer = successorIn s.pq.steps r p.t := by
  simp [State.nextAnswer, hp, hr]

/-- With no shed the question is for the first pick of the program (R32). -/
theorem nextAnswer_of_first {s : State} {r : StepRec} (hp : s.ph.shed = none) (hf : firstPending s.pq.steps = some r) :
    s.nextAnswer = .pick r.seq 0 false := by
  simp only [State.nextAnswer, hp, hf]

/-- With no shed and no PENDING record there is no successor (R32). -/
theorem nextAnswer_of_no_first {s : State} (hp : s.ph.shed = none) (hf : firstPending s.pq.steps = none) :
    s.nextAnswer = .noSuccessor := by
  simp only [State.nextAnswer, hp, hf]

/-- The logical weft of pick `t` of a step in the queue (R35). -/
theorem logicalWeft_of_step {s : State} {seq : BitVec 16} {r : StepRec} (t : Nat) (hr : s.step? seq = some r) :
    s.logicalWeft seq t =
      (tabGet s.wsu.sequences r.weftSeq []).getD (t % (tabGet s.wsu.sequences r.weftSeq []).length) 0 := by
  simp [State.logicalWeft, hr]

/-- A shed whose record names its channel is not the pick due; nor is an absent shed (R161). -/
theorem pickDue_of_served {s : State} (h : ∀ p, s.ph.shed = some p → p.channel ≠ none) : s.pickDue = s.dueAfterShed := by
  unfold State.pickDue
  split
  · next p hp => rw [if_neg (h p hp)]
  · rfl

/-- Settles O25: the cases of R33, of the questions (R32, R35) and of the pick due (R161), each read off its definition. -/
theorem successorCases : Obligations.SuccessorCases := by
  refine ⟨fun q r t => ?_, fun s => ⟨?_, fun hn => ?_, ?_, fun hn => ?_, ?_, fun served => ?_⟩⟩
  · obtain ⟨within, next, last⟩ := successorIn_cases q r t
    refine ⟨within, next, fun h hf stop => ?_, fun h hf stop hn => ?_, fun h hf stop hn => ?_⟩
    · rw [last h hf]; simp [stop]
    · rw [last h hf]; simp [stop, hn]
    · rw [last h hf]; simp [stop, hn]
  · exact fun p r hp hr => nextAnswer_of_shed hp hr
  · exact ⟨fun r hr => nextAnswer_of_first hn hr, fun hf => nextAnswer_of_no_first hn hf⟩
  · exact fun x hx => by simp [State.weftAnswer, hx]
  · refine ⟨fun ha => by simp [State.weftAnswer, hn, ha], fun seq t b r ha hr => ?_⟩
    simp [State.weftAnswer, hn, ha, logicalWeft_of_step t hr]
  · exact fun p hp hc => by simp [State.pickDue, hp, hc]
  · rw [pickDue_of_served served]
    exact ⟨fun x hx => by simp [State.dueAfterShed, hx],
      fun hn => ⟨fun w hw => by simp [State.dueAfterShed, hn, hw], fun hw => by simp [State.dueAfterShed, hn, hw]⟩⟩

end Sys2Proof.Machine.Program
end

section
/-! Weft resolution (R158) and the channel check of a composition that begins (R165): what they do, and what they leave. -/

namespace Sys2Proof.Machine.Program

open Sys2Proof Sys2Proof.Machine

/-! ### Resolution -/

/-- A selected channel that is READY is taken (R158). -/
theorem resolve_ready {s : State} {w : Nat} (h : s.wsu.isReady (s.wsu.entry w).selected = true) :
    s.resolve w = ((s.wsu.entry w).selected, s) := by
  simp [State.resolve, h]

/-- Where the selected channel is OUT and the other READY, the entry switches (R158). -/
theorem resolve_switches {s : State} {w o : Nat} (h : s.wsu.isReady (s.wsu.entry w).selected = false)
    (ho : (s.wsu.entry w).other = some o) (hr : s.wsu.isReady o = true) : s.resolve w = (o, s.switchWeft w o) := by
  simp [State.resolve, h, Wsu.spare, ho, hr]

/-- Where no channel of the entry is READY, the selected one stands (R158). -/
theorem resolve_stuck {s : State} {w : Nat} (h : s.wsu.isReady (s.wsu.entry w).selected = false)
    (ho : ∀ o, (s.wsu.entry w).other = some o → s.wsu.isReady o = false) : s.resolve w = ((s.wsu.entry w).selected, s) := by
  cases hother : (s.wsu.entry w).other with
  | none => simp [State.resolve, h, Wsu.spare, hother]
  | some o => simp [State.resolve, h, Wsu.spare, hother, ho o hother]

/-- The three ways a logical weft resolves (R158). -/
theorem resolve_cases (s : State) (w : Nat) :
    s.wsu.isReady (s.wsu.entry w).selected = true ∨
    s.wsu.isReady (s.wsu.entry w).selected = false ∧
      ((∃ o, (s.wsu.entry w).other = some o ∧ s.wsu.isReady o = true) ∨
        ∀ o, (s.wsu.entry w).other = some o → s.wsu.isReady o = false) := by
  cases s.wsu.isReady (s.wsu.entry w).selected with
  | true => exact .inl rfl
  | false =>
    refine .inr ⟨rfl, ?_⟩
    cases (s.wsu.entry w).other with
    | none => exact .inr (by simp)
    | some o => cases hr : s.wsu.isReady o <;> simp [hr]

/-- Resolving gives what the statements say of it (R158). -/
theorem resolves_resolve (s : State) (w : Nat) :
    Resolves s w (s.resolve w).1 (s.resolve w).2.wsu.map (s.resolve w).2.evs := by
  rcases resolve_cases s w with h | ⟨h, ⟨o, ho, hr⟩ | ho⟩
  · rw [resolve_ready h]
    exact ⟨fun _ => ⟨rfl, rfl, rfl⟩, fun h' => absurd (h.symm.trans h') (by decide)⟩
  · rw [resolve_switches h ho hr]
    refine ⟨fun h' => absurd (h.symm.trans h') (by decide), fun _ => ⟨fun o' ho' _ => ?_, fun all => ?_⟩⟩
    · cases ho.symm.trans ho'
      exact ⟨rfl, rfl, rfl⟩
    · exact absurd (hr.symm.trans (all o ho)) (by decide)
  · rw [resolve_stuck h ho]
    refine ⟨fun h' => absurd (h.symm.trans h') (by decide), fun _ => ⟨fun o ho' hr => ?_, fun _ => ⟨rfl, rfl, rfl⟩⟩⟩
    exact absurd (hr.symm.trans (ho o ho')) (by decide)

/-- What a resolution gives rests on the weft selector and the event unit alone. -/
theorem resolves_congr {s t : State} {w c : Nat} {map : Vector WeftEntry 8} {evs : Evs} (hw : t.wsu = s.wsu) (he : t.evs = s.evs)
    (h : Resolves s w c map evs) : Resolves t w c map evs := by
  unfold Resolves at h ⊢
  rw [hw, he]
  exact h

/-- Resolving changes the weft map and WEFT_SWITCHED with its detail, nothing else (R158). -/
theorem resolve_eq (s : State) (w : Nat) :
    (s.resolve w).2 = { s with wsu.map := (s.resolve w).2.wsu.map
                               evs := { s.evs with flags := (s.resolve w).2.evs.flags
                                                   switched := (s.resolve w).2.evs.switched } } := by
  rcases resolve_cases s w with h | ⟨h, ⟨o, ho, hr⟩ | ho⟩
  · rw [resolve_ready h]
  · rw [resolve_switches h ho hr]; rfl
  · rw [resolve_stuck h ho]

/-- An entry that has another channel is an entry of the map. -/
theorem entry_lt_of_other {x : Wsu} {w o : Nat} (h : (x.entry w).other = some o) : w < 8 := by
  by_contra hw
  have : x.entry w = WeftEntry.powerOn w := by simp [Wsu.entry, tabGet, show ¬ w < 8 from hw]
  rw [this] at h
  cases h

/-- A switched entry selects what was its other channel. -/
theorem switched_selected {e : WeftEntry} {o : Nat} (h : e.other = some o) : e.switched.selected = o := by
  obtain ⟨primary, alternate, selection, exhausted⟩ := e
  cases selection <;> simp_all [WeftEntry.other, WeftEntry.switched, WeftEntry.selected]

/-- A weft once resolved resolves to the same channel again, with no further switch (R158). -/
theorem resolve_again {s t : State} (w : Nat) (hm : t.wsu.map = (s.resolve w).2.wsu.map) (hr : t.wsu.ready = s.wsu.ready) :
    t.resolve w = ((s.resolve w).1, t) := by
  have ready (c : Nat) : t.wsu.isReady c = s.wsu.isReady c := by simp only [Wsu.isReady, hr]
  rcases resolve_cases s w with h | ⟨h, ⟨o, ho, hro⟩ | ho⟩
  · have entry : t.wsu.entry w = s.wsu.entry w := by rw [Wsu.entry, hm, resolve_ready h]; rfl
    rw [resolve_ready h, resolve_ready (by rw [entry, ready, h]), entry]
  · have entry : t.wsu.entry w = (s.wsu.entry w).switched := by
      rw [Wsu.entry, hm, resolve_switches h ho hro]
      show tabGet (tabSet s.wsu.map w (s.wsu.entry w).switched) w _ = _
      rw [tabGet_tabSet, if_pos ⟨rfl, entry_lt_of_other ho⟩]
    rw [resolve_switches h ho hro, resolve_ready (by rw [entry, ready, switched_selected ho, hro]), entry, switched_selected ho]
  · have entry : t.wsu.entry w = s.wsu.entry w := by rw [Wsu.entry, hm, resolve_stuck h ho]; rfl
    rw [resolve_stuck h ho, resolve_stuck (by rw [entry, ready, h]) (by rw [entry]; simpa only [ready] using ho), entry]

/-! ### The channel check -/

/-- An engagement made for the staging record, its weft already resolved (R163). -/
theorem engage_staging {s : State} {st : Staging} {c : Nat} (hst : s.pcm.staging = some st)
    (hshed : ∀ p, s.ph.shed = some p → p.channel ≠ none) (hr : s.resolve st.pick.weft = (c, s)) :
    s.engage = { s with wsu := { s.wsu with finger := .engaged c, servedG := some st.pick.g, release := none }
                        pcm.staging := some { st with pick.channel := some c } } := by
  rw [State.engage, pickDue_of_served hshed]
  simp [State.dueAfterShed, hst, Due.weft?, hr, State.engageFor, State.writeChannel, State.dueG]

/-- A record that the engaged finger does not serve is not checked (R165). -/
theorem checkChannel_unserved {s : State} {st : Staging} (hst : s.pcm.staging = some st)
    (h : s.wsu.servedG ≠ some st.pick.g ∨ ∀ c, s.wsu.finger ≠ .engaged c) : s.checkChannel = s := by
  unfold State.checkChannel
  rw [hst]
  split
  · next st' now heq hf =>
    cases heq
    exact if_neg (h.resolve_right fun h' => h' now hf)
  · rfl

/-- A record that the engaged finger serves is checked (R165). -/
theorem checkChannel_served {s : State} {st : Staging} {now : Nat} (hst : s.pcm.staging = some st)
    (hg : s.wsu.servedG = some st.pick.g) (hf : s.wsu.finger = .engaged now) :
    s.checkChannel =
      if now = (s.resolve st.pick.weft).1 then (s.resolve st.pick.weft).2.writeChannel (.staging st.pick) now
      else (s.resolve st.pick.weft).2.countSelect.releaseFinger.waitFor (s.resolve st.pick.weft).1 := by
  unfold State.checkChannel
  simp only [hst, hf, hg, if_true]
  split
  · next h => rw [← h]
  · rfl

/-- The record takes the finger's channel when its weft resolves to it (R165). -/
theorem checkChannel_same {s : State} {st : Staging} {now : Nat} (hst : s.pcm.staging = some st)
    (hg : s.wsu.servedG = some st.pick.g) (hf : s.wsu.finger = .engaged now) (h : now = (s.resolve st.pick.weft).1) :
    s.checkChannel =
      { s with wsu.map := (s.resolve st.pick.weft).2.wsu.map, evs := (s.resolve st.pick.weft).2.evs
               pcm.staging := some { st with pick.channel := some now } } := by
  rw [checkChannel_served hst hg hf, if_pos h, resolve_eq]
  simp [State.writeChannel, hst]

/-- The finger is released and waits for the channel resolved when there is a dead time to wait for (R163, R165). -/
theorem checkChannel_waits {s : State} {st : Staging} {now : Nat} (hst : s.pcm.staging = some st)
    (hg : s.wsu.servedG = some st.pick.g) (hf : s.wsu.finger = .engaged now) (h : now ≠ (s.resolve st.pick.weft).1)
    (hr : s.stu.weaving = .running) (hd : 0 < s.stu.active.dead) :
    s.checkChannel =
      { s with stu.armed.weftSelect := false, evs := (s.resolve st.pick.weft).2.evs
               wsu := { s.wsu with map := (s.resolve st.pick.weft).2.wsu.map
                                   finger := .waiting (s.resolve st.pick.weft).1 false
                                   release := some { dead := s.stu.active.dead, count := 0 } } } := by
  rw [checkChannel_served hst hg hf, if_neg h, resolve_eq]
  simp [State.releaseFinger, hr, State.waitFor, State.deadComplete, Nat.not_le.2 hd, State.countSelect, Finger.carried]

/-- With no dead time and a shed that is served the finger engages the channel resolved at once, for the record (R163, R165). -/
theorem checkChannel_engages {s : State} {st : Staging} {now : Nat} (hst : s.pcm.staging = some st)
    (hg : s.wsu.servedG = some st.pick.g) (hf : s.wsu.finger = .engaged now) (h : now ≠ (s.resolve st.pick.weft).1)
    (hr : s.stu.weaving = .running) (hd : s.stu.active.dead = 0) (hshed : ∀ p, s.ph.shed = some p → p.channel ≠ none) :
    s.checkChannel =
      { s with stu.armed.weftSelect := false, evs := (s.resolve st.pick.weft).2.evs
               wsu := { s.wsu with map := (s.resolve st.pick.weft).2.wsu.map
                                   finger := .engaged (s.resolve st.pick.weft).1, release := none }
               pcm.staging := some { st with pick.channel := some (s.resolve st.pick.weft).1 } } := by
  rw [checkChannel_served hst hg hf, if_neg h]
  have again := fun t : State => resolve_again (s := s) (t := t) st.pick.weft
  rw [resolve_eq] at again ⊢
  generalize (s.resolve st.pick.weft).2.wsu.map = map at again ⊢
  generalize (s.resolve st.pick.weft).2.evs = evs
  generalize (s.resolve st.pick.weft).1 = c at again ⊢
  simp only [State.countSelect, State.releaseFinger, hr, State.waitFor, State.deadComplete, hd, Nat.le_refl, decide_true, if_true]
  rw [engage_staging (st := st) (c := c)]
  · simp [hg]
  · exact hst
  · exact hshed
  · exact again _ rfl rfl

end Sys2Proof.Machine.Program
end

section
/-! The beginning of a composition (R81): what the question to the queue and the channel check leave, and what the staging invalidation
list does (R93, R94, R96). -/

namespace Sys2Proof.Machine.Program

open Sys2Proof Sys2Proof.Machine

/-! ### A record of the queue changed by its seq -/

variable {seq : BitVec 16} {f : StepRec → StepRec}

/-- The records before the first with a seq stand when those with the seq change. -/
theorem takeWhile_update (q : List StepRec) (hf : ∀ x, (f x).seq = x.seq) :
    ((q.map fun x => if x.seq = seq then f x else x).takeWhile fun x => x.seq ≠ seq) = q.takeWhile fun x => x.seq ≠ seq := by
  induction q with
  | nil => rfl
  | cons x rest ih =>
    by_cases h : x.seq = seq
    · simp [h, hf]
    · simpa [h] using ih

/-- The record of the seq that changes. -/
theorem find_update_same (q : List StepRec) (hf : ∀ x, (f x).seq = x.seq) :
    ((q.map fun x => if x.seq = seq then f x else x).find? fun x => x.seq = seq) = (q.find? fun x => x.seq = seq).map f := by
  induction q with
  | nil => rfl
  | cons x rest ih =>
    by_cases h : x.seq = seq
    · simp [h, hf]
    · simpa [h] using ih

/-! ### What moves -/

/-- `t` is `s` but for what an answer of the queue moves: sync flags and pending wait, step records, the answer of a wait, STEP_OPENED with its
detail and the other flags, and the starved count (R34, R38, R39, R20, R23). -/
def QueueMoved (s t : State) : Prop :=
  ∃ sync0 sync1 wait steps response work flags opened stops,
    t = { s with stu := { s.stu with sync0 := sync0, sync1 := sync1, wait := wait }
                 pq := { s.pq with steps := steps }
                 dlp := { s.dlp with response := response, work := work }
                 evs := { s.evs with flags := flags, opened := opened, stops := stops } }

theorem QueueMoved.refl (s : State) : QueueMoved s s := ⟨_, _, _, _, _, _, _, _, _, rfl⟩

theorem QueueMoved.trans {s t u : State} (h : QueueMoved s t) (h' : QueueMoved t u) : QueueMoved s u := by
  obtain ⟨_, _, _, _, _, _, _, _, _, rfl⟩ := h
  obtain ⟨_, _, _, _, _, _, _, _, _, rfl⟩ := h'
  exact ⟨_, _, _, _, _, _, _, _, _, rfl⟩

theorem queueMoved_raise (s : State) (x : EventFlag) : QueueMoved s (s.raise x) := ⟨_, _, _, _, _, _, _, _, _, rfl⟩

theorem queueMoved_occur (s : State) (x : SyncSource) : QueueMoved s (s.occur x) := by
  unfold State.occur State.settleWait
  split
  · split
    · exact ⟨_, _, _, _, _, _, _, _, _, rfl⟩
    · exact ⟨_, _, _, _, _, _, _, _, _, rfl⟩
  · exact ⟨_, _, _, _, _, _, _, _, _, rfl⟩

theorem queueMoved_checkWatermark (s : State) : QueueMoved s s.checkWatermark := by
  unfold State.checkWatermark
  split
  · exact (queueMoved_raise s _).trans (queueMoved_occur _ _)
  · exact .refl s

theorem queueMoved_openStep (s : State) (r : StepRec) : QueueMoved s (s.openStep r) :=
  .trans (⟨_, _, _, _, _, _, _, _, _, rfl⟩) ((queueMoved_occur _ .stepOpened).trans (queueMoved_checkWatermark _))

theorem queueMoved_enterStep (s : State) (seq : BitVec 16) : QueueMoved s (s.enterStep seq) := by
  unfold State.enterStep
  split
  · split
    · exact queueMoved_openStep s _
    · exact .refl s
  · exact .refl s

/-- `t` is `s` but for what the channel check moves: WEFT_SELECT disarmed, the channels of the shed and of the staging record, the
weft map, the finger with its release record and served G, and WEFT_SWITCHED with its detail. A shed that is served stands (R163, R165). -/
def FingerMoved (s t : State) : Prop :=
  ∃ select staging shed map finger release served flags switched,
    t = { s with stu.armed.weftSelect := select
                 pcm.staging := staging
                 ph.shed := shed
                 wsu := { s.wsu with map := map, finger := finger, release := release, servedG := served }
                 evs := { s.evs with flags := flags, switched := switched } } ∧
    ((∀ p, s.ph.shed = some p → p.channel ≠ none) → shed = s.ph.shed) ∧
    ∀ st, s.pcm.staging = some st → ∃ c, staging = some { st with pick.channel := c }

theorem FingerMoved.refl (s : State) : FingerMoved s s :=
  ⟨_, _, _, _, _, _, _, _, _, rfl, fun _ => rfl, fun st h => ⟨st.pick.channel, h⟩⟩

theorem FingerMoved.trans {s t u : State} (h : FingerMoved s t) (h' : FingerMoved t u) : FingerMoved s u := by
  obtain ⟨_, _, shed, _, _, _, _, _, _, rfl, hs, hst⟩ := h
  obtain ⟨_, _, _, _, _, _, _, _, _, rfl, hs', hst'⟩ := h'
  refine ⟨_, _, _, _, _, _, _, _, _, rfl, fun served => ?_, fun st h => ?_⟩
  · have same : shed = s.ph.shed := hs served
    exact (hs' (by simpa only [same] using served)).trans same
  · obtain ⟨c, hc⟩ := hst st h
    obtain ⟨c', hc'⟩ := hst' _ hc
    exact ⟨c', hc'⟩

/-- An update of the weft selector and the armed flag alone. -/
theorem fingerMoved_wsu (s : State) (select : Bool) (map : Vector WeftEntry 8) (finger : Finger) (release : Option Release)
    (served : Option (BitVec 32)) (flags : BitVec 15) (switched : Option (Nat × Nat)) :
    FingerMoved s { s with stu.armed.weftSelect := select
                           wsu := { s.wsu with map := map, finger := finger, release := release, servedG := served }
                           evs := { s.evs with flags := flags, switched := switched } } :=
  ⟨_, _, _, _, _, _, _, _, _, rfl, fun _ => rfl, fun st h => ⟨st.pick.channel, h⟩⟩

theorem fingerMoved_resolve (s : State) (w : Nat) : FingerMoved s (s.resolve w).2 := by
  rw [resolve_eq]
  exact fingerMoved_wsu s _ _ _ _ _ _ _

theorem fingerMoved_releaseFinger (s : State) : FingerMoved s s.releaseFinger := by
  unfold State.releaseFinger
  split <;> exact fingerMoved_wsu s _ _ _ _ _ _ _

/-- A channel is written into the pick due or nowhere (R163). -/
theorem fingerMoved_writeChannel {s : State} {due : Due} (c : Nat)
    (shed : ∀ p, due = .shed p → s.ph.shed = some p ∧ p.channel = none)
    (staging : ∀ p, due = .staging p → ∃ st, s.pcm.staging = some st ∧ st.pick = p) : FingerMoved s (s.writeChannel due c) := by
  cases due with
  | shed p =>
    obtain ⟨hp, hc⟩ := shed p rfl
    exact ⟨_, _, _, _, _, _, _, _, _, rfl, fun served => absurd hc (served p hp), fun st h => ⟨st.pick.channel, h⟩⟩
  | staging p =>
    obtain ⟨st, hst, rfl⟩ := staging p rfl
    refine ⟨_, _, _, _, _, _, _, _, _, rfl, fun _ => rfl, fun st' h' => ⟨some c, ?_⟩⟩
    cases hst.symm.trans h'
    simp [hst]
  | answer w => exact .refl s
  | nothing => exact .refl s

/-- The pick due is the shed record where it has no channel, or the staging record, or none of the two (R161). -/
theorem pickDue_record (s : State) :
    (∀ p, s.pickDue = .shed p → s.ph.shed = some p ∧ p.channel = none) ∧
    ∀ p, s.pickDue = .staging p → ∃ st, s.pcm.staging = some st ∧ st.pick = p := by
  have after : (∀ p, s.dueAfterShed ≠ .shed p) ∧
      ∀ p, s.dueAfterShed = .staging p → ∃ st, s.pcm.staging = some st ∧ st.pick = p := by
    unfold State.dueAfterShed
    split
    · next st hst => exact ⟨by simp, fun p h => ⟨st, hst, Due.staging.inj h⟩⟩
    · split <;> simp
  unfold State.pickDue
  split
  · next p hp =>
    split
    · next hc => exact ⟨fun q h => by cases h; exact ⟨hp, hc⟩, by simp⟩
    · exact ⟨fun q h => absurd h (after.1 q), after.2⟩
  · exact ⟨fun q h => absurd h (after.1 q), after.2⟩

theorem fingerMoved_engage (s : State) : FingerMoved s s.engage := by
  obtain ⟨shed, staging⟩ := pickDue_record s
  unfold State.engage
  dsimp only
  split
  · exact fingerMoved_wsu s _ _ _ _ _ _ _
  · next w _ =>
    obtain ⟨_, hph, hpcm⟩ : True ∧ (s.resolve w).2.ph = s.ph ∧ (s.resolve w).2.pcm = s.pcm := by simp
    refine (fingerMoved_resolve s w).trans (.trans (fingerMoved_writeChannel (s.resolve w).1 ?_ ?_) (fingerMoved_wsu _ _ _ _ _ _ _ _))
    · rw [hph]; exact shed
    · rw [hpcm]; exact staging

theorem fingerMoved_waitFor (s : State) (c : Nat) : FingerMoved s (s.waitFor c) := by
  have waits : FingerMoved s { s with wsu.finger := .waiting c s.wsu.finger.carried } := fingerMoved_wsu s _ _ _ _ _ _ _
  unfold State.waitFor
  dsimp only
  split
  · exact waits.trans (fingerMoved_engage _)
  · exact waits

theorem fingerMoved_checkChannel (s : State) : FingerMoved s s.checkChannel := by
  cases hst : s.pcm.staging with
  | none =>
    have : s.checkChannel = s := by unfold State.checkChannel; rw [hst]
    rw [this]
    exact .refl s
  | some st =>
    by_cases h : s.wsu.servedG ≠ some st.pick.g ∨ ∀ c, s.wsu.finger ≠ .engaged c
    · rw [checkChannel_unserved hst h]
      exact .refl s
    · simp only [not_or, not_not, not_forall] at h
      obtain ⟨hg, now, hf⟩ := h
      rw [checkChannel_served hst hg hf]
      refine (fingerMoved_resolve s st.pick.weft).trans ?_
      have hpcm : (s.resolve st.pick.weft).2.pcm = s.pcm := by simp
      split
      · exact fingerMoved_writeChannel now (by simp) (by rintro p ⟨⟩; exact ⟨st, by rw [hpcm, hst], rfl⟩)
      · refine .trans (fingerMoved_wsu _ false _ _ _ _ _ _) ((fingerMoved_releaseFinger _).trans (fingerMoved_waitFor _ _))

/-! ### A composition begins (R81) -/

/-- The queue once it has answered for a step: extended when it runs short, and opened when PENDING (R34, R38). -/
def entered (s : State) (seq : BitVec 16) (starved : Bool) : State := (if starved then s.extendStep seq else s).enterStep seq

/-- The record of a step once its pick has entered staging; `was` is the record before. -/
def enteredStep (q : List StepRec) (was : StepRec) (starved : Bool) (x : StepRec) : StepRec :=
  { x with n := if starved then x.n + 1 else x.n
           state := if was.state = .waiting then .opened else x.state
           rowBase := if was.state = .waiting then some (openingBase q was.seq) else x.rowBase }

/-- The state with a composition of a pick just begun (R81). -/
def recorded (s : State) (p : Pick) : State :=
  { s with pcm.staging := some ⟨p, .composing { slots := none, rows := [] }⟩, pcm.programEnd := false, pcm.marked := false }

/-- A record found by its seq has it. -/
theorem step?_seq {s : State} {r : StepRec} (h : s.step? seq = some r) : r.seq = seq := by
  simpa using List.find?_some h

theorem queueMoved_entered (s : State) (starved : Bool) : QueueMoved s (entered s seq starved) := by
  cases starved with
  | false => exact queueMoved_enterStep s seq
  | true => exact .trans (⟨_, _, _, _, _, _, _, _, _, rfl⟩) (queueMoved_enterStep (s.extendStep seq) seq)

/-- The records of the queue once a step has opened (R38). -/
theorem openStep_steps (s : State) (r : StepRec) :
    (s.openStep r).pq.steps = s.pq.steps.map fun x =>
      if x.seq = r.seq then { x with state := .opened, rowBase := some (openingBase s.pq.steps r.seq) } else x := by
  simp [State.openStep, State.updateStep]

/-- A PENDING step opens as a pick of it enters staging (R38). -/
theorem enterStep_waiting {s : State} {r : StepRec} (hr : s.step? seq = some r) (hw : r.state = .waiting) :
    s.enterStep seq = s.openStep r := by simp [State.enterStep, hr, hw]

/-- A step that is not PENDING stands as a pick of it enters staging (R38). -/
theorem enterStep_standing {s : State} {r : StepRec} (hr : s.step? seq = some r) (hw : r.state ≠ .waiting) :
    s.enterStep seq = s := by simp [State.enterStep, hr, hw]

/-- The record of a step once it is extended (R34). -/
theorem extendStep_step? {s : State} {r : StepRec} (hr : s.step? seq = some r) :
    (s.extendStep seq).step? seq = some { r with n := r.n + 1 } :=
  (find_update_same (f := fun x => { x with n := x.n + 1 }) s.pq.steps fun _ => rfl).trans (congrArg (Option.map _) hr)

/-- An extension of a step leaves the row_base it opens with (R38). -/
theorem openingBase_extendStep (s : State) : openingBase (s.extendStep seq).pq.steps seq = openingBase s.pq.steps seq := by
  unfold openingBase
  rw [show ((s.extendStep seq).pq.steps.takeWhile fun r => r.seq ≠ seq) = s.pq.steps.takeWhile fun r => r.seq ≠ seq from
    takeWhile_update s.pq.steps fun _ => rfl]

/-- The records of the queue once a pick of a step has entered staging (R34, R38). -/
theorem entered_steps {s : State} {r : StepRec} (starved : Bool) (hr : s.step? seq = some r) :
    (entered s seq starved).pq.steps =
      s.pq.steps.map fun x => if x.seq = seq then enteredStep s.pq.steps r starved x else x := by
  obtain rfl := step?_seq hr
  have extended := extendStep_step? hr
  unfold entered
  cases starved with
  | false =>
    by_cases hw : r.state = .waiting
    · simp [enterStep_waiting hr hw, openStep_steps, enteredStep, hw]
    · simp [enterStep_standing hr hw, enteredStep, hw]
  | true =>
    rw [if_pos rfl]
    by_cases hw : r.state = .waiting
    · rw [enterStep_waiting extended hw, openStep_steps, openingBase_extendStep]
      simp only [State.extendStep, State.updateStep, State.raise, List.map_map]
      apply List.map_congr_left
      intro x _
      by_cases hx : x.seq = r.seq <;> simp [enteredStep, hx, hw]
    · rw [enterStep_standing extended hw]
      simp [State.extendStep, State.updateStep, State.raise, enteredStep, hw]

/-- The step of a pick that has entered staging. -/
theorem entered_step? {s : State} {r : StepRec} (starved : Bool) (hr : s.step? seq = some r) :
    (entered s seq starved).step? seq = some (enteredStep s.pq.steps r starved r) := by
  rw [State.step?, entered_steps starved hr, find_update_same (f := enteredStep s.pq.steps r starved) _ fun _ => rfl]
  exact congrArg _ hr

/-- With no successor the indication is set, and a shed becomes the shed marked last (R33, R83). -/
theorem beginComposition_of_none {s : State} (h : s.nextAnswer = .noSuccessor) :
    s.beginComposition = { s with pcm.programEnd := true, pcm.marked := s.ph.shed.isSome } := by
  simp [State.beginComposition, h]

/-- With a successor its record begins and its channel is checked (R81, R165). -/
theorem beginComposition_of_pick {s : State} {t : Nat} {starved : Bool} {r : StepRec} (h : s.nextAnswer = .pick seq t starved)
    (hr : s.step? seq = some r) :
    s.beginComposition =
      (recorded (entered s seq starved)
        ((entered s seq starved).newPick (enteredStep s.pq.steps r starved r) t)).checkChannel := by
  have := entered_step? starved hr
  rw [entered] at this
  simp only [State.beginComposition, h, this, recorded, entered]

/-- What a record that begins is numbered (R80, R81). -/
theorem newPick_entered (s : State) (r : StepRec) (t : Nat) (starved : Bool) :
    ((entered s seq starved).newPick r t).g = s.nextG ∧ ((entered s seq starved).newPick r t).seq = r.seq ∧
    ((entered s seq starved).newPick r t).t = t ∧ ((entered s seq starved).newPick r t).channel = none := by
  obtain ⟨_, _, _, _, _, _, _, _, _, he⟩ := queueMoved_entered (seq := seq) s starved
  refine ⟨?_, rfl, rfl, rfl⟩
  rw [he]
  rfl

end Sys2Proof.Machine.Program
end

section
/-! What an event of the staging invalidation list does is what the statements say of it (R93, R94, R96). -/

namespace Sys2Proof.Machine.Program

open Sys2Proof Sys2Proof.Machine

/-- In RUNNING a later record is discarded and a new composition begins at once (R96). -/
theorem invalidate_running {s : State} {st : Staging} (hst : s.pcm.staging = some st) (late : ∀ r, st.phase ≠ .composing r)
    (running : s.stu.weaving = .running) : s.invalidate = s.discarded.beginComposition := by
  obtain ⟨p, phase⟩ := st
  cases phase with
  | composing r => exact absurd rfl (late r)
  | composed r => simp [State.invalidate, hst, running, State.discardStaging_eq_discarded]
  | transferring r => simp [State.invalidate, hst, running, State.discardStaging_eq_discarded]
  | transferred r => simp [State.invalidate, hst, running, State.discardStaging_eq_discarded]

/-- `State.nextG` with its cases written out (R80). -/
theorem nextG_eq (s : State) : s.nextG = match s.ph.shed with | some p => p.g + 1 | none => s.pcm.nextPick := by
  unfold State.nextG
  cases s.ph.shed <;> rfl

/-- The row_base a step opens with, with its cases written out (R38). -/
theorem openingBase_eq (q : List StepRec) (seq : BitVec 16) :
    openingBase q seq = match (q.takeWhile fun x => x.seq ≠ seq).getLast? with
      | some x => x.rowBase.getD 0 + BitVec.ofNat 32 (x.n * x.period)
      | none => 0 := by
  unfold openingBase
  cases (q.takeWhile fun x => x.seq ≠ seq).getLast? <;> rfl

/-- What the queue's answer leaves of the finger, the history and the armed flags. -/
theorem QueueMoved.stands {s t : State} (h : QueueMoved s t) :
    t.wsu = s.wsu ∧ t.ph = s.ph ∧ t.stu.armed = s.stu.armed ∧ t.stu.weaving = s.stu.weaving ∧ t.stu.active = s.stu.active := by
  obtain ⟨_, _, _, _, _, _, _, _, _, rfl⟩ := h
  exact ⟨rfl, rfl, rfl, rfl, rfl⟩

section Checked

/-! The state `e` the queue's answer left of `d`, and the record `p` of the pick that begins. -/

variable {d e : State} {p : Pick} (moved : QueueMoved d e)

/-- The channel check leaves the record that began, but for its channel (R165). -/
theorem checked_record (e : State) (p : Pick) : ∃ c, (recorded e p).checkChannel.pcm.staging =
    some ⟨{ p with channel := c }, .composing { slots := none, rows := [] }⟩ := by
  obtain ⟨_, _, _, _, _, _, _, _, _, checked, -, kept⟩ := fingerMoved_checkChannel (recorded e p)
  obtain ⟨c, kept⟩ := kept _ rfl
  exact ⟨c, by rw [checked]; exact kept⟩

include moved in
/-- A record that the finger does not serve leaves the finger, the history and the armed flags (R165). -/
theorem checked_unserved (hc : p.channel = none) (h : d.wsu.servedG ≠ some p.g ∨ ∀ c, d.wsu.finger ≠ .engaged c) :
    let t := (recorded e p).checkChannel
    t.wsu = d.wsu ∧ t.ph = d.ph ∧ t.stu.armed = d.stu.armed ∧ t.pcm.staging.bind (·.pick.channel) = none := by
  obtain ⟨hwsu, hph, harmed, -, -⟩ := moved.stands
  have same : (recorded e p).checkChannel = recorded e p := checkChannel_unserved rfl (hwsu.symm ▸ h)
  exact ⟨by rw [same]; exact hwsu, by rw [same]; exact hph, by rw [same]; exact harmed, by rw [same]; exact hc⟩

include moved in
/-- A record that the finger serves takes its channel, or the finger is released and waits for another (R165). -/
theorem checked_served (running : d.stu.weaving = .running) (hc : p.channel = none) {c : Nat} {y : Staging}
    (hg : d.wsu.servedG = some p.g) (hf : d.wsu.finger = .engaged c) (hy : (recorded e p).checkChannel.pcm.staging = some y) :
    let t := (recorded e p).checkChannel
    ∃ x map before evs, Resolves { d with evs := before } y.pick.weft x map evs ∧
      (x = c → t.wsu = { d.wsu with map := map } ∧ t.ph = d.ph ∧ t.stu.armed = d.stu.armed ∧ y.pick.channel = some c) ∧
      (x ≠ c → t.stu.armed.weftSelect = false ∧
        (0 < d.stu.active.dead → t.ph = d.ph ∧ y.pick.channel = none ∧
          t.wsu = { d.wsu with map := map, finger := .waiting x false,
                               release := some { dead := d.stu.active.dead, count := 0 } })) := by
  obtain ⟨hwsu, hph, harmed, hweaving, hactive⟩ := moved.stands
  intro t
  let st : Staging := ⟨p, .composing { slots := none, rows := [] }⟩
  have hst : (recorded e p).pcm.staging = some st := rfl
  have hg' : (recorded e p).wsu.servedG = some st.pick.g := hwsu.symm ▸ hg
  have hf' : (recorded e p).wsu.finger = .engaged c := hwsu.symm ▸ hf
  obtain ⟨ch, hrecord⟩ := checked_record e p
  have hweft : y.pick.weft = p.weft := by cases hrecord.symm.trans hy; rfl
  have resolves := resolves_congr (t := { d with evs := e.evs }) hwsu.symm rfl (resolves_resolve (recorded e p) p.weft)
  rw [hweft]
  refine ⟨_, _, e.evs, _, resolves, fun same => ?_, fun other => ?_⟩
  · have ht : t = _ := checkChannel_same hst hg' hf' same.symm
    refine ⟨by rw [ht, ← hwsu]; rfl, by rw [ht]; exact hph, by rw [ht]; exact harmed, ?_⟩
    rw [show (recorded e p).checkChannel = _ from ht] at hy
    cases hy
    rfl
  · have served := checkChannel_served hst hg' hf'
    rw [if_neg (Ne.symm other)] at served
    refine ⟨?_, fun dead => ?_⟩
    · show (recorded e p).checkChannel.stu.armed.weftSelect = false
      rw [served]
      simp
    · have ht : t = _ := checkChannel_waits hst hg' hf' (Ne.symm other) (hweaving.trans running) (hactive.symm ▸ dead)
      refine ⟨by rw [ht]; exact hph, ?_, by rw [ht, ← hwsu, ← hactive]; rfl⟩
      rw [show (recorded e p).checkChannel = _ from ht] at hy
      cases hy
      exact hc

include moved in
/-- What a composition that begins leaves: the blocks and fields that neither the queue's answer nor the channel check moves. -/
theorem checked_frame :
    let t := (recorded e p).checkChannel
    t = { d with
      stu := { d.stu with armed := { d.stu.armed with weftSelect := t.stu.armed.weftSelect }, sync0 := t.stu.sync0,
                          sync1 := t.stu.sync1, wait := t.stu.wait }
      pq := { d.pq with steps := e.pq.steps }
      pcm := { d.pcm with staging := t.pcm.staging, programEnd := false, marked := false }
      ph := { d.ph with shed := t.ph.shed }
      wsu := { d.wsu with map := t.wsu.map, finger := t.wsu.finger, release := t.wsu.release, servedG := t.wsu.servedG }
      dlp := t.dlp
      evs := { d.evs with flags := t.evs.flags, opened := t.evs.opened, switched := t.evs.switched, stops := t.evs.stops } } := by
  obtain ⟨_, _, _, _, _, _, _, _, _, rfl⟩ := moved
  obtain ⟨_, _, _, _, _, _, _, _, _, checked, -, -⟩ := fingerMoved_checkChannel (recorded _ p)
  rw [checked]
  rfl

end Checked

/-- A composition begun with a successor: the queue's answer, the record, its channel check (R81). -/
theorem begins_of_pick {d : State} {seq : BitVec 16} {k : Nat} {starved : Bool} {r : StepRec}
    (hn : d.nextAnswer = .pick seq k starved) (hr : d.step? seq = some r) :
    ∃ e p, QueueMoved d e ∧ e = entered d seq starved ∧ (p.g, p.seq, p.t, p.channel) = (d.nextG, seq, k, none) ∧
      d.beginComposition = (recorded e p).checkChannel := by
  obtain rfl := step?_seq hr
  obtain ⟨hg, hseq, ht, hc⟩ := newPick_entered d (enteredStep d.pq.steps r starved r) k (seq := r.seq) starved
  exact ⟨_, _, queueMoved_entered d starved, rfl, by rw [hg, hseq, ht, hc]; rfl, beginComposition_of_pick hn hr⟩

/-- The staging invalidation list does what the statements say of it (R93, R94, R96). -/
theorem invalidated_invalidate (u : State) : Invalidated u u.invalidate := by
  refine ⟨u.invalidate_of_early, fun st hst late => ⟨u.invalidate_of_late st hst late, fun running => ?_⟩⟩
  rw [invalidate_running hst late running]
  generalize hd : u.discarded = d
  replace running : d.stu.weaving = .running := by rw [← hd]; simpa using running
  refine ⟨beginComposition_of_none, fun seq k starved r hn hr => ?_⟩
  obtain ⟨e, p, moved, he, hp, begins⟩ := begins_of_pick hn hr
  obtain ⟨hg, hseq, ht, hc⟩ : p.g = d.nextG ∧ p.seq = seq ∧ p.t = k ∧ p.channel = none := by simpa using hp
  obtain ⟨c, record⟩ := checked_record e p
  rw [begins]
  intro base g begun
  have hbase : base = openingBase d.pq.steps seq := (openingBase_eq d.pq.steps seq).symm
  have hg' : g = p.g := (nextG_eq d).symm.trans hg.symm
  clear_value g base
  subst hg' hbase
  refine ⟨by rw [record, ← hseq, ← ht]; rfl, checked_unserved moved hc, fun c y => checked_served moved running hc, ?_⟩
  obtain rfl := step?_seq hr
  have steps := entered_steps starved hr
  rw [← he] at steps
  have frame := checked_frame (p := p) moved
  rw [steps] at frame
  exact frame

/-- A composition begins with a composition that its step's pick enters, or with no successor, or its step is not in the queue (R81). -/
theorem beginComposition_cases (s : State) :
    (∃ seq starved p, s.beginComposition = (recorded (entered s seq starved) p).checkChannel) ∨
    (∃ seq starved, s.beginComposition = entered s seq starved) ∨ s.nextAnswer = .noSuccessor := by
  cases hn : s.nextAnswer with
  | noSuccessor => exact .inr (.inr rfl)
  | pick seq t starved =>
    cases hr : (entered s seq starved).step? seq with
    | some r =>
      refine .inl ⟨seq, starved, (entered s seq starved).newPick r t, ?_⟩
      rw [entered] at hr
      simp only [State.beginComposition, hn, hr, recorded, entered]
    | none =>
      refine .inr (.inl ⟨seq, starved, ?_⟩)
      rw [entered] at hr
      simp only [State.beginComposition, hn, hr, entered]

/-- What a composition that begins leaves in every state: the design link port but for an answer of a wait, the weaving state, and a shed
that is served. -/
theorem beginComposition_stands (s : State) :
    s.beginComposition.dlp.frame = s.dlp.frame ∧ s.beginComposition.dlp.shiftedOut = s.dlp.shiftedOut ∧
    s.beginComposition.stu.weaving = s.stu.weaving ∧
    ((∀ p, s.ph.shed = some p → p.channel ≠ none) → s.beginComposition.ph = s.ph) := by
  rcases beginComposition_cases s with ⟨seq, starved, p, begins⟩ | ⟨seq, starved, begins⟩ | hn
  · obtain ⟨_, _, _, _, _, _, _, _, _, moved⟩ := queueMoved_entered (seq := seq) s starved
    obtain ⟨_, _, _, _, _, _, _, _, _, checked, hshed, -⟩ := fingerMoved_checkChannel (recorded (entered s seq starved) p)
    rw [moved] at begins checked hshed
    rw [begins, checked]
    refine ⟨rfl, rfl, rfl, fun served => ?_⟩
    rw [hshed served]
    rfl
  · obtain ⟨_, _, _, _, _, _, _, _, _, moved⟩ := queueMoved_entered (seq := seq) s starved
    rw [begins, moved]
    exact ⟨rfl, rfl, rfl, fun _ => rfl⟩
  · rw [beginComposition_of_none hn]
    exact ⟨rfl, rfl, rfl, fun _ => rfl⟩

/-- What the staging invalidation list leaves in every state. -/
theorem invalidate_stands (s : State) :
    s.invalidate.dlp.frame = s.dlp.frame ∧ s.invalidate.dlp.shiftedOut = s.dlp.shiftedOut ∧
    s.invalidate.stu.weaving = s.stu.weaving ∧
    ((∀ p, s.ph.shed = some p → p.channel ≠ none) → s.invalidate.ph = s.ph) := by
  have discards := beginComposition_stands s.discardStaging
  unfold State.invalidate
  split
  · simp
  · simp
  · split
    · simpa using discards
    · simp

end Sys2Proof.Machine.Program
end

section
/-! A design link command taken with BUSY low: its answer, and the state it leaves but for the design link port (R171, R173). -/

namespace Sys2Proof.Machine.Program

open Sys2Proof Sys2Proof.Machine

/-- Two states of the design link port with the same frame received and the same bytes shifted out. -/
def SameFrame (x y : Dlp) : Prop := x.frame = y.frame ∧ x.shiftedOut = y.shiftedOut

variable {c : Instr} {owner : State → Taken} {s : State}

/-- A command refused by its owner. -/
theorem refuses_of_owner {why : Detail} (ho : ownerOf c = some owner) (hb : s.dlp.work = none)
    (h : owner (s.frameIn (frameOf c)) = .refuse why (s.frameIn (frameOf c))) : Refuses c s why :=
  refuses_of_refuse ho ((busy_eq_false s).2 hb) h

/-- A command accepted by its owner, whatever its event answered a wait with. -/
theorem accepts_of_owner {v : State} {d : Detail} {p : List Byte} (ho : ownerOf c = some owner) (hb : s.dlp.work = none)
    (h : owner (s.frameIn (frameOf c)) = ⟨v, some ⟨.accept, d, p⟩⟩) (hv : SameFrame v.dlp (s.frameIn (frameOf c)).dlp) :
    Accepts c s d p { v with dlp := s.dlp } := by
  obtain ⟨hf, hs⟩ := hv
  rw [Accepts, exec_command ho, takeCommand_free c owner ((busy_eq_false s).2 hb), h]
  simp only [State.answer, Dlp.after, hf, hs, State.frameIn]

/-- A command accepted by its owner with no other effect on the design link port. -/
theorem accepts_plain {t : State} {d : Detail} {p : List Byte} (ho : ownerOf c = some owner) (hb : s.dlp.work = none)
    (h : owner (s.frameIn (frameOf c)) = ⟨t.frameIn (frameOf c), some ⟨.accept, d, p⟩⟩) : Accepts c s d p t :=
  accepts_of_reply ho ((busy_eq_false s).2 hb) h

/-- What the list does rests on nothing of the design link port. -/
theorem invalidated_port {u t : State} {x : Dlp} (h : Invalidated { u with dlp := x } t) : Invalidated u { t with dlp := u.dlp } := by
  obtain ⟨early, late⟩ := h
  refine ⟨fun h => by rw [early h], fun st hst hl => ?_⟩
  obtain ⟨still, running⟩ := late st hst hl
  have discarded : State.discarded { u with dlp := x } = { u.discarded with dlp := x } := by
    unfold State.discarded
    rw [show ({ u with dlp := x } : State).pcm.staging = u.pcm.staging from rfl, hst]
  intro d
  rw [discarded] at still running
  refine ⟨fun h => ?_, fun h => ?_⟩
  · rw [still h]
    show ({ d with dlp := u.dlp } : State) = d
    have : d.dlp = u.dlp := by simp [d]
    rw [← this]
  · obtain ⟨none, pick⟩ := running h
    refine ⟨fun hn => ?_, fun seq k starved r hn hr => ?_⟩
    · rw [none hn]
      have : d.dlp = u.dlp := by simp [d]
      rw [← this]
    · obtain ⟨record, unserved, served, frame⟩ := pick seq k starved r hn hr
      exact ⟨record, unserved, served, congrArg (fun z : State => { z with dlp := u.dlp }) frame⟩

/-- A command whose event meets the staging invalidation list once its own effect is made (R93). -/
theorem accepts_invalidate {u : State} {d : Detail} {p : List Byte} (ho : ownerOf c = some owner) (hb : s.dlp.work = none)
    (hu : u.dlp = s.dlp)
    (h : owner (s.frameIn (frameOf c)) = ⟨(u.frameIn (frameOf c)).invalidate, some ⟨.accept, d, p⟩⟩) :
    ∃ t, Accepts c s d p t ∧ Invalidated u t := by
  obtain ⟨hf, hs, -, -⟩ := invalidate_stands (u.frameIn (frameOf c))
  refine ⟨_, accepts_of_owner ho hb h ⟨by rw [hf, State.frameIn_dlp, hu, State.frameIn_dlp], by rw [hs]; rfl⟩, ?_⟩
  rw [← hu]
  exact invalidated_port (invalidated_invalidate (u.frameIn (frameOf c)))

end Sys2Proof.Machine.Program
end

section
/-! The commands of the program queue (section 2.3): STEP_APPEND, STEP_CUT, QUEUE_READ, QUEUE_WATERMARK. -/

namespace Sys2Proof.Machine.Program

open Sys2Proof Sys2Proof.Machine

/-! ### A record within the queue -/

variable {before after : List StepRec} {r : StepRec}

/-- The first record with the seq of a record that follows others of other seqs. -/
theorem find_split (h : ∀ x ∈ before, x.seq ≠ r.seq) : ((before ++ r :: after).find? fun x => x.seq = r.seq) = some r := by
  rw [List.find?_append, List.find?_eq_none.2 (by simpa using h)]
  simp

/-- The records before it. -/
theorem takeWhile_split (h : ∀ x ∈ before, x.seq ≠ r.seq) : ((before ++ r :: after).takeWhile fun x => x.seq ≠ r.seq) = before := by
  rw [List.takeWhile_append_of_pos (by simpa using h)]
  simp

/-! ### STEP_CUT, QUEUE_READ, QUEUE_WATERMARK -/

/-- STEP_CUT of a PENDING record leaves the records before it (R29). -/
theorem takeStepCut_waiting {s : State} (hq : s.pq.steps = before ++ r :: after) (hb : ∀ x ∈ before, x.seq ≠ r.seq)
    (hw : r.state = .waiting) :
    takeStepCut r.seq s = .accept (u8 (after.length + 1) ++ u8 before.length) (State.invalidate { s with pq.steps := before }) := by
  have found : s.step? r.seq = some r := by rw [State.step?, hq, find_split hb]
  have left : cutFrom s.pq.steps r.seq = before := by rw [cutFrom, hq, takeWhile_split hb]
  simp only [takeStepCut, found, hw, ne_eq, not_true, if_false, left]
  rw [hq]
  simp

/-- Settles O42: each command read off its owner, STEP_CUT by the split of the queue at its record. -/
theorem queueCommands : Obligations.QueueCommands := by
  intro s hb
  refine ⟨fun seq none => ?_, fun before r after hq hseq => ⟨fun hw => ?_, fun hw => ?_⟩, fun index high => ?_, fun index low past => ?_,
    fun index r low hr => ?_, fun value => ?_⟩
  · have absent : s.step? seq = .none := List.find?_eq_none.2 (by simpa using none)
    exact refuses_of_owner rfl hb (by simp only [takeStepCut, show (s.frameIn _).step? seq = .none from absent])
  · have found : s.step? r.seq = some r := by rw [State.step?, hq, find_split hseq]
    exact refuses_of_owner rfl hb
      (by simp only [takeStepCut, show (s.frameIn _).step? r.seq = some r from found, ne_eq, hw, not_false_eq_true, if_true])
  · exact accepts_invalidate (u := { s with pq.steps := before }) rfl hb rfl (takeStepCut_waiting hq hseq hw)
  · exact refuses_of_owner rfl hb (by simp [takeQueueRead, high])
  · exact refuses_of_owner rfl hb (by simp [takeQueueRead, Nat.not_lt.2 low, List.getElem?_eq_none past])
  · refine accepts_plain rfl hb ?_
    simp only [takeQueueRead, Nat.not_lt.2 low, if_false, State.frameIn_pq, hr, Taken.accept]
    rfl
  · refine accepts_plain rfl hb ?_
    by_cases h : 31 < value.toNat <;> simp [takeQueueWatermark, Taken.acceptClamped, h, State.frameIn]

/-! ### STEP_APPEND -/

/-- A repeat byte with a meaning (R25). -/
theorem repeatOf_eq {b : Byte} (h : b.toNat ≤ 1) : repeatOf b = some (if b = 0 then .straight else .point) := by
  have : b = 0#8 ∨ b = 1#8 := by bv_omega
  rcases this with rfl | rfl <;> rfl

/-- A flag byte with a meaning (R179). -/
theorem flagOf_eq {b : Byte} (h : b.toNat ≤ 1) : flagOf b = some (decide (b = 1)) := by
  have : b = 0#8 ∨ b = 1#8 := by bv_omega
  rcases this with rfl | rfl <;> rfl

/-- A repeat byte without a meaning. -/
theorem repeatOf_none {b : Byte} (h : ¬ b.toNat ≤ 1) : repeatOf b = none := by
  unfold repeatOf
  rw [if_neg (by bv_omega), if_neg (by bv_omega)]

/-- A flag byte without a meaning. -/
theorem flagOf_none {b : Byte} (h : ¬ b.toNat ≤ 1) : flagOf b = none := by
  unfold flagOf
  rw [if_neg (by bv_omega), if_neg (by bv_omega)]

/-- The seq that is passed to, over those that records carry (R27). -/
theorem freeSeq_eq {q : List StepRec} {fuel k : Nat} {c : BitVec 16} (hk : k ≤ fuel)
    (carried : ∀ j, j < k → ∃ x ∈ q, x.seq = c + BitVec.ofNat 16 j) (free : ∀ x ∈ q, x.seq ≠ c + BitVec.ofNat 16 k) :
    freeSeq q fuel c = c + BitVec.ofNat 16 k := by
  induction fuel generalizing c k with
  | zero =>
    obtain rfl : k = 0 := by omega
    simp [freeSeq]
  | succ fuel ih =>
    cases k with
    | zero => rw [freeSeq, if_neg (by simpa using free)]; simp
    | succ k =>
      have next (j : Nat) : c + BitVec.ofNat 16 (j + 1) = c + 1#16 + BitVec.ofNat 16 j := by
        rw [BitVec.ofNat_add, BitVec.add_comm (BitVec.ofNat 16 j), BitVec.add_assoc]
      obtain ⟨x, hx, hc⟩ := carried 0 (by omega)
      have taken : (q.any fun r => r.seq = c) = true := List.any_eq_true.2 ⟨x, hx, by simpa using hc⟩
      rw [freeSeq, if_pos taken, next k]
      exact ih (k := k) (by omega) (fun j hj => next j ▸ carried (j + 1) (by omega)) (next k ▸ free)

section Append

variable {s : State} {design vmode p weftSeq stop : Byte} {first last n : BitVec 16} {tag : OptField 16}

/-- The fields of STEP_APPEND within the ranges test 1 of R28 asks for. -/
def AppendFields (design vmode p weftSeq stop : Byte) (n : BitVec 16) (tag : OptField 16) : Prop :=
  design.toNat < 16 ∧ vmode.toNat ≤ 1 ∧ 1 ≤ n.toNat ∧ n.toNat ≤ 4095 ∧ 1 ≤ p.toNat ∧ p.toNat ≤ 4 ∧ weftSeq.toNat < 16 ∧
    tag.present.toNat ≤ 1 ∧ stop.toNat ≤ 1

/-- The record an append with such fields makes (R25). -/
def appended (design vmode p weftSeq stop : Byte) (first last n : BitVec 16) (tag : OptField 16) (seq : BitVec 16) : StepRec :=
  { seq := seq, design := design.toNat, rowFirst := first.toNat, rowLast := last.toNat,
    vmode := if vmode = 0 then .straight else .point, n := n.toNat, p := p.toNat, weftSeq := weftSeq.toNat,
    tag := if tag.present = 1 then some tag.value else none, stopAtEnd := decide (stop = 1), rowBase := none, state := .waiting }

/-- A field out of its range refuses the append (R28). -/
theorem takeStepAppend_badField (h : ¬ AppendFields design vmode p weftSeq stop n tag) :
    takeStepAppend design first last vmode n p weftSeq tag stop s = .refuse .badField s := by
  by_cases hv : vmode.toNat ≤ 1
  · by_cases ht : tag.present.toNat ≤ 1
    · by_cases hs : stop.toNat ≤ 1
      · have numbers : 16 ≤ design.toNat ∨ n.toNat = 0 ∨ 4095 < n.toNat ∨ p.toNat = 0 ∨ 4 < p.toNat ∨ 16 ≤ weftSeq.toNat := by
          unfold AppendFields at h
          omega
        simp only [takeStepAppend, repeatOf_eq hv, optOf, flagOf_eq ht, flagOf_eq hs, Option.map_some, if_pos numbers]
      · simp only [takeStepAppend, repeatOf_eq hv, optOf, flagOf_eq ht, Option.map_some, flagOf_none hs]
    · simp only [takeStepAppend, repeatOf_eq hv, optOf, flagOf_none ht, Option.map_none]
  · simp only [takeStepAppend, repeatOf_none hv]

/-- With its fields in range an append asks for the design, the rows and room in the queue, in this order (R28). -/
theorem takeStepAppend_fields (h : AppendFields design vmode p weftSeq stop n tag) :
    takeStepAppend design first last vmode n p weftSeq tag stop s =
      (s.design? design.toNat).elim (.refuse .notFound s) fun d =>
        if last.toNat < first.toNat ∨ d.h ≤ last.toNat then .refuse .badField s
        else
          let mk := appended design vmode p weftSeq stop first last n tag
          if s.pq.steps.length < 32 then .accept (appendPayload (s.joinQueue mk)) (s.joinQueue mk)
          else s.pq.steps.head?.elim (.refuse .queueFull s) fun oldest =>
            if oldest.state = .closed then
              .accept (appendPayload ((s.freeForAppend oldest).joinQueue mk)) ((s.freeForAppend oldest).joinQueue mk)
            else .refuse .queueFull s := by
  have ⟨hdesign, hv, hn, hn', hp, hp', hw, ht, hs⟩ := h
  have numbers : ¬ (16 ≤ design.toNat ∨ n.toNat = 0 ∨ 4095 < n.toNat ∨ p.toNat = 0 ∨ 4 < p.toNat ∨ 16 ≤ weftSeq.toNat) := by
    omega
  simp only [takeStepAppend, repeatOf_eq hv, optOf, flagOf_eq ht, flagOf_eq hs, Option.map_some, if_neg numbers, State.design?]
  cases tabGet s.ps.directory design.toNat none with
  | none => rfl
  | some d =>
    simp only [Option.elim_some, decide_eq_true_eq, Config.queueCapacity]
    cases s.pq.steps.head? <;> rfl

/-- A record joins the queue with the seq passed to (R27). -/
theorem joinQueue_eq (mk : BitVec 16 → StepRec) {k : Nat} (hk : k < 32)
    (carried : ∀ j, j < k → ∃ x ∈ s.pq.steps, x.seq = s.pq.counter + BitVec.ofNat 16 j)
    (free : ∀ x ∈ s.pq.steps, x.seq ≠ s.pq.counter + BitVec.ofNat 16 k) :
    s.joinQueue mk = { s with pq := { s.pq with steps := s.pq.steps ++ [mk (s.pq.counter + BitVec.ofNat 16 k)]
                                                counter := s.pq.counter + BitVec.ofNat 16 k + 1#16 } } ∧
    appendPayload (s.joinQueue mk) = bytes16 (s.pq.counter + BitVec.ofNat 16 k) ++ u8 (s.pq.steps.length + 1) := by
  have seq : freeSeq s.pq.steps Config.queueCapacity s.pq.counter = s.pq.counter + BitVec.ofNat 16 k :=
    freeSeq_eq (Nat.le_of_lt hk) carried free
  have joined : s.joinQueue mk = { s with pq := { s.pq with
      steps := s.pq.steps ++ [mk (s.pq.counter + BitVec.ofNat 16 k)]
      counter := s.pq.counter + BitVec.ofNat 16 k + 1#16 } } := by
    simp only [State.joinQueue, seq]
  refine ⟨joined, ?_⟩
  rw [joined]
  simp [appendPayload]

/-- The oldest record leaves a full queue, and the ring is trimmed of it (R28, R118). -/
theorem freeForAppend_eq {x : StepRec} {rest : List StepRec} (hq : s.pq.steps = x :: rest) (hrest : ∀ y ∈ rest, y.seq ≠ x.seq) :
    s.freeForAppend x = { s with pq := { s.pq with steps := rest }
                                 ph := { s.ph with ring := s.ph.ring.dropWhile fun p => p.seq = x.seq, origin := false } } := by
  have kept : (s.pq.steps.filter fun r => r.seq ≠ x.seq) = rest := by
    rw [hq, List.filter_cons_of_neg (by simp), List.filter_eq_self.2 (by simpa using hrest)]
  simp only [State.freeForAppend, State.freeStep, kept, trimRing]

end Append

/-- Settles O41: the tests of R28 in order, the passing over of carried seqs, and the freeing of the oldest record of a full queue. -/
theorem stepAppend : Obligations.StepAppend := by
  intro s design vmode p weftSeq stop first last n tag hb c fields
  have asks := fun f : List Byte => takeStepAppend_fields (design := design) (vmode := vmode) (p := p) (weftSeq := weftSeq)
    (stop := stop) (n := n) (tag := tag) (s := s.frameIn f) (first := first) (last := last)
  refine ⟨fun h => refuses_of_owner rfl hb (takeStepAppend_badField h), fun h hd => ?_, ?_⟩
  · exact refuses_of_owner rfl hb ((asks _ h).trans (by rw [show (s.frameIn _).design? design.toNat = none from hd]; rfl))
  intro d h hd range record passed joins answer
  have asks := fun f : List Byte => (asks f h).trans
    (congrArg (Option.elim · _ _) (show (s.frameIn f).design? design.toNat = some d from hd))
  simp only [Option.elim_some] at asks
  refine ⟨fun hr => ?_, fun hr full open_ => ?_, fun hr room k hk carried => ?_, fun x rest k hr hq hl hx hrest hk carried => ?_⟩
  · exact refuses_of_owner rfl hb ((asks _).trans (if_pos (by simp only [range] at hr; omega)))
  · refine refuses_of_owner rfl hb ((asks _).trans ?_)
    rw [if_neg (by simp only [range] at hr; omega), if_neg (by simpa using full)]
    cases hhead : (s.frameIn (frameOf c)).pq.steps.head? with
    | none => rfl
    | some x => exact if_neg (open_ x hhead)
  · obtain ⟨joined, payload⟩ := joinQueue_eq (s := s.frameIn (frameOf c)) record hk carried.1 carried.2
    refine accepts_plain rfl hb ((asks _).trans ?_)
    rw [if_neg (by simp only [range] at hr; omega)]
    exact (if_pos room).trans (by rw [show appended design vmode p weftSeq stop first last n tag = record from rfl, payload, joined]; rfl)
  · have freed := congrArg State.pq (freeForAppend_eq (s := s.frameIn (frameOf c)) hq hrest)
    obtain ⟨joined, payload⟩ := joinQueue_eq (s := (s.frameIn (frameOf c)).freeForAppend x) record hk
      (by rw [freed]; exact carried.1) (by rw [freed]; exact carried.2)
    rw [freed] at joined payload
    refine accepts_plain rfl hb ((asks _).trans ?_)
    rw [if_neg (by simp only [range] at hr; omega)]
    refine (if_neg (by simp [hq, hl])).trans ?_
    rw [show (s.frameIn (frameOf c)).pq.steps.head? = some x by simp [hq], Option.elim_some, if_pos hx,
      show appended design vmode p weftSeq stop first last n tag = record from rfl, payload, joined]
    rfl

end Sys2Proof.Machine.Program
end

section
/-! FAULT_PUT and FAULT_REMOVE (R150, R151): the tests in order, the entry stored or removed. -/

namespace Sys2Proof.Machine.Program

open Sys2Proof Sys2Proof.Machine

variable {s : State} {hook spare : BitVec 16} {action : Byte}

/-- The action of a FAULT_PUT whose code has a meaning (R143, R150). -/
def putAction (action : Byte) (spare : BitVec 16) : FaultAction := if action = 0 then .park else .substitute spare.toNat

/-- The fields of FAULT_PUT within the ranges test 1 of R150 asks for. -/
def PutFields (hook spare : BitVec 16) (action : Byte) : Prop :=
  hook.toNat < 12288 ∧ (action = 0 ∨ action = 1 ∧ spare.toNat < 12288)

/-- The action codes with a meaning are 0 and 1 (R143). -/
theorem faultActionOf_eq (action : Byte) (spare : BitVec 16) :
    faultActionOf action spare = if action = 0 ∨ action = 1 then some (putAction action spare) else none := by
  unfold faultActionOf putAction
  by_cases h : action = 0#8
  · simp [h]
  · by_cases h' : action = 1#8 <;> simp [h, h']

/-- A field out of its range refuses the put (R150). -/
theorem takeFaultPut_badField (h : ¬ PutFields hook spare action) :
    takeFaultPut hook action spare s = .refuse .badField s := by
  unfold takeFaultPut
  rw [faultActionOf_eq]
  by_cases code : action = 0 ∨ action = 1
  · have range : 12288 ≤ hook.toNat ∨ ¬ (putAction action spare).inRange := by
      rcases code with rfl | rfl
      · exact .inl (by simpa [PutFields] using h)
      · simp only [PutFields, not_and_or, not_lt] at h
        have h : 12288 ≤ hook.toNat ∨ 12288 ≤ spare.toNat := by simpa using h
        exact h.imp_right fun hs => by simp [putAction, FaultAction.inRange, Config.hookCount, Nat.not_lt.2 hs]
    simp only [if_pos code]
    exact if_pos range
  · simp only [if_neg code]

/-- With its fields in range a put asks for a conflict, then for room in the table (R150). -/
theorem takeFaultPut_fields (h : PutFields hook spare action) :
    takeFaultPut hook action spare s =
      if s.putConflict hook.toNat (putAction action spare) then .refuse .conflict s
      else if (s.hft.find hook.toNat).isNone ∧ 128 ≤ s.hft.entries.length then .refuse .tableFull s
      else
        let e := s.hft.staticEntry hook.toNat (putAction action spare)
        .accept (e.payload ++ u8 (putEntry e s.hft.entries).length) (State.invalidate { s with hft.entries := putEntry e s.hft.entries }) := by
  obtain ⟨hh, ha⟩ := h
  have range : ¬ (12288 ≤ hook.toNat ∨ ¬ (putAction action spare).inRange) := by
    rcases ha with rfl | ⟨rfl, hs⟩
    · simp [putAction, FaultAction.inRange, hh]
    · simp [putAction, FaultAction.inRange, Config.hookCount, hh, hs]
  unfold takeFaultPut
  rw [faultActionOf_eq, if_pos (ha.imp_right And.left)]
  exact if_neg range

/-- Whether an entry of another hook names a hook as its substitute. -/
theorem sparedElsewhere_iff (t : Hft) (hook x : Nat) :
    t.sparedElsewhere hook x = true ↔ ∃ e ∈ t.entries, e.hook ≠ hook ∧ e.spare = some x := by
  simp [Hft.sparedElsewhere]

/-- A hook has an entry when one of the table has its key. -/
theorem find_isSome_iff (t : Hft) (h : Nat) : (t.find h).isSome = true ↔ ∃ e ∈ t.entries, e.hook = h := by
  simp [Hft.find, List.find?_isSome]

/-- Test 3 of R150 fails for a spare. -/
theorem spareConflict_iff (s : State) (hook x : Nat) :
    s.spareConflict hook x = true ↔
      x = hook ∨ s.hookExists x = false ∨ (∃ y ∈ s.pcm.sections.toList, 0 < y.c ∧ y.covers x = true) ∨
        (∃ e ∈ s.hft.entries, e.hook = x) ∨ ∃ e ∈ s.hft.entries, e.hook ≠ hook ∧ e.spare = some x := by
  simp only [State.spareConflict, Bool.or_eq_true, decide_eq_true_eq, Bool.not_eq_true', List.any_eq_true, Bool.and_eq_true,
    find_isSome_iff, sparedElsewhere_iff, or_assoc]

/-- Tests 2 and 3 of R150 fail for an action whose code has a meaning. -/
theorem putConflict_iff (s : State) (hook : Nat) (ha : action = 0 ∨ action = 1) :
    s.putConflict hook (putAction action spare) = true ↔
      s.hft.sparedElsewhere hook hook = true ∨ action = 1 ∧ s.spareConflict hook spare.toNat = true := by
  rcases ha with rfl | rfl <;> simp [State.putConflict, putAction]

/-- The entry stored keeps the count and the sense of the one it replaces (R150). -/
theorem staticEntry_eq (t : Hft) (hook : Nat) (a : FaultAction) :
    t.staticEntry hook a =
      { hook, kind := .fixed a, count := match t.find hook with | some e => e.count | none => 0,
        sense := match t.find hook with | some e => e.sense | none => none } := by
  unfold Hft.staticEntry
  cases t.find hook <;> rfl

/-- FAULT_REMOVE of a hook without an entry, and of one with an entry (R151). -/
theorem takeFaultRemove_range (h : hook.toNat < 12288) :
    takeFaultRemove hook s = (s.hft.find hook.toNat).elim (.refuse .notFound s) fun e =>
      .accept (e.payload ++ u8 (s.hft.entries.filter fun x => x.hook ≠ hook.toNat).length)
        (State.invalidate { s with hft.entries := s.hft.entries.filter fun x => x.hook ≠ hook.toNat }) := by
  unfold takeFaultRemove
  rw [Config.hookCount, if_neg (Nat.not_le.2 h)]
  cases s.hft.find hook.toNat <;> rfl

/-- Settles O39: the tests in order, the entry stored or removed, and the staging record as the invalidation list gives. -/
theorem faultEntryCommands : Obligations.FaultEntryCommands := by
  intro s hook spare action hb h put a fields serves spareBad conflict entry after
  have puts := fun (f : List Byte) (hf : PutFields hook spare action) => takeFaultPut_fields (s := s.frameIn f) hf
  have conflicts : fields → (s.putConflict h (putAction action spare) = true ↔ conflict) := fun hf => by
    rw [putConflict_iff s h (hf.2.imp_right And.left), sparedElsewhere_iff, spareConflict_iff]
  have stored : s.hft.staticEntry h (putAction action spare) = entry := staticEntry_eq s.hft h _
  refine ⟨fun hf => refuses_of_owner rfl hb (takeFaultPut_badField hf), fun hf hc => ?_, fun hf hc hn full => ?_, fun hf hc room => ?_,
    fun hh => ?_, fun hh hn => ?_, fun e hh he => ?_⟩
  · exact refuses_of_owner rfl hb ((puts _ hf).trans (if_pos ((conflicts hf).2 hc)))
  · refine refuses_of_owner rfl hb ((puts _ hf).trans ?_)
    rw [if_neg (by exact mt (conflicts hf).1 hc)]
    exact if_pos ⟨Option.isNone_iff_eq_none.2 hn, full⟩
  · refine accepts_invalidate (u := { s with hft.entries := after }) rfl hb rfl ((puts _ hf).trans ?_)
    rw [if_neg (by exact mt (conflicts hf).1 hc)]
    refine (if_neg fun hfull => room.elim (absurd (Option.isNone_iff_eq_none.1 hfull.1)) (Nat.not_lt.2 hfull.2)).trans ?_
    rw [show (s.frameIn (frameOf put)).hft = s.hft from rfl, stored]
    rfl
  · exact refuses_of_owner rfl hb (if_pos hh)
  · exact refuses_of_owner rfl hb ((takeFaultRemove_range hh).trans (by rw [show (s.frameIn _).hft.find hook.toNat = none from hn]; rfl))
  · exact accepts_invalidate (u := { s with hft.entries := s.hft.entries.filter fun x => x.hook ≠ h }) rfl hb rfl
      ((takeFaultRemove_range hh).trans (by rw [show (s.frameIn _).hft.find hook.toNat = some e from he]; rfl))

end Sys2Proof.Machine.Program
end

section
/-! CELLS and CELLS_MORE (R58): the cells written at the cursor, and what a live edit leaves of the staging record (R55, R60). -/

namespace Sys2Proof.Machine.Program

open Sys2Proof Sys2Proof.Machine

/-! ### Writing at the cursor -/

/-- A repeated move begins with one move. -/
theorem repeat_succ {α : Type} (f : α → α) (n : Nat) (a : α) : Nat.repeat f (n + 1) a = Nat.repeat f n (f a) := by
  induction n with
  | zero => rfl
  | succ n ih => exact congrArg f ih

/-- The address of the cell a cursor stands on. -/
def cursorAddr (d : Design) (w : Window) : Nat := d.cellAddr w.row w.col

/-- The cursor after some writes (R57, R58). -/
theorem writeAtCursor_window (d : Design) (l : List Colour) (m : CellMem) (w : Window) :
    (writeAtCursor d l m w).2 = Nat.repeat Window.advance l.length w := by
  induction l generalizing m w with
  | nil => rfl
  | cons x rest ih => rw [writeAtCursor, ih, List.length_cons, repeat_succ]

/-- A cell that the cursor does not visit stands (R58). -/
theorem readCell_writeAtCursor_other (d : Design) (l : List Colour) {m : CellMem} (w : Window) {a : Nat} (hm : m.wf = true)
    (h : ∀ k, k < l.length → cursorAddr d (Nat.repeat Window.advance k w) ≠ a) :
    readCell (writeAtCursor d l m w).1 a = readCell m a := by
  induction l generalizing m w with
  | nil => rfl
  | cons x rest ih =>
    rw [writeAtCursor, ih _ (writeCell_wf _ _ hm) fun k hk => repeat_succ Window.advance k w ▸ h (k + 1) (Nat.succ_lt_succ hk),
      readCell_writeCell _ _ _ hm]
    exact if_neg (Ne.symm (h 0 (Nat.succ_pos _)))

/-- A cell takes the colour of the last visit to it (R58). -/
theorem readCell_writeAtCursor_visited (d : Design) (l : List Colour) {m : CellMem} (w : Window) {k : Nat} (hm : m.wf = true)
    (hk : k < l.length) (last : ∀ j, k < j → j < l.length →
      cursorAddr d (Nat.repeat Window.advance j w) ≠ cursorAddr d (Nat.repeat Window.advance k w)) :
    readCell (writeAtCursor d l m w).1 (cursorAddr d (Nat.repeat Window.advance k w)) = l[k] := by
  induction l generalizing m w k with
  | nil => cases hk
  | cons x rest ih =>
    cases k with
    | zero =>
      rw [writeAtCursor, readCell_writeAtCursor_other _ _ _ (writeCell_wf _ _ hm) fun j hj => ?_]
      · exact (readCell_writeCell _ _ _ hm).trans (if_pos rfl)
      · rw [← repeat_succ]
        exact last (j + 1) (Nat.succ_pos j) (Nat.succ_lt_succ hj)
    | succ k =>
      rw [writeAtCursor, repeat_succ]
      refine ih _ (writeCell_wf _ _ hm) (Nat.lt_of_succ_lt_succ hk) fun j hkj hj => ?_
      rw [← repeat_succ, ← repeat_succ]
      exact last (j + 1) (Nat.succ_lt_succ hkj) (Nat.succ_lt_succ hj)

/-- The cells packed into some bytes, two to a byte, the first in the high nibble (R182). -/
theorem getD_nibbles (packed : List Byte) (k : Nat) :
    (packed.flatMap fun b => [b.extractLsb' 4 4, b.extractLsb' 0 4]).getD k 0#4 =
      if k % 2 = 0 then (packed.getD (k / 2) 0).extractLsb' 4 4 else (packed.getD (k / 2) 0).extractLsb' 0 4 := by
  induction packed generalizing k with
  | nil => simp
  | cons b rest ih =>
    match k with
    | 0 => simp
    | 1 => simp
    | k + 2 =>
      have half : (k + 2) / 2 = k / 2 + 1 := by omega
      simpa [half, Nat.add_mod_right] using ih k

/-- Two cells to a byte. -/
theorem nibbles_length (packed : List Byte) :
    (packed.flatMap fun b => [b.extractLsb' 4 4, b.extractLsb' 0 4]).length = 2 * packed.length := by
  induction packed with
  | nil => rfl
  | cons b rest ih => simp [ih]; omega

/-- The colours a payload of the right length holds (R58, R182). -/
theorem unpackCells_eq {n : Nat} {packed : List Byte} (h : packed.length = (n + 1) / 2) :
    (unpackCells n packed).length = n ∧ ∀ k (hk : k < (unpackCells n packed).length), (unpackCells n packed)[k] =
      if k % 2 = 0 then (packed.getD (k / 2) 0).extractLsb' 4 4 else (packed.getD (k / 2) 0).extractLsb' 0 4 := by
  have length : (unpackCells n packed).length = n := by
    rw [unpackCells, List.length_take, nibbles_length]
    omega
  refine ⟨length, fun k hk => ?_⟩
  rw [← getD_nibbles, List.getD_eq_getElem _ _ (by rw [nibbles_length]; omega)]
  simp [unpackCells]

/-! ### The staging record under a live edit -/

/-- A cell read from the cells of some addresses, its own among them. -/
theorem readCell_filter {m : CellMem} {q : Nat × Colour → Bool} {a : Nat} (h : ∀ p : Nat × Colour, p.1 = a → q p = true) :
    readCell (m.filter q) a = readCell m a := by
  induction m with
  | nil => rfl
  | cons p rest ih =>
    obtain ⟨b, y⟩ := p
    by_cases hq : q (b, y) = true
    · simp only [List.filter_cons_of_pos hq, readCell, ih]
    · have : a ≠ b := fun hab => hq (h (b, y) hab.symm)
      simp only [List.filter_cons_of_neg hq, readCell, if_neg this, ih]

/-- A row read finds every cell of the row as it stands (R60). -/
theorem readCell_readRow {s : State} {id row col : Nat} {d : Design} (hd : s.design? id = some d) (hc : col < d.w) :
    readCell (s.readRow id row) (d.cellAddr row col) = readCell s.ps.cells (d.cellAddr row col) := by
  simp only [State.readRow, hd]
  apply readCell_filter
  intro p hp
  simp only [hp, Design.cellAddr, Design.blocksPerRow, Config.cellsPerBlock, decide_eq_true_eq]
  generalize d.base + row * _ = x
  omega

/-- The reads a composition in flight has taken before a write: none more, or the map and some rows as they stood (R60, R70; log 3). -/
theorem readsTo_cases (s : State) (p : Pick) (n id : Nat) (r : Reads) (hid : s.pickDesign p = some id) :
    s.readsTo p n r = r ∨
      (s.readsTo p n r).slots = some (r.slots.getD (s.readSlots id p.k)) ∧
      ∃ m, (s.readsTo p n r).rows = r.rows ++ List.replicate m (s.readRow id p.row) := by
  cases n with
  | zero => exact .inl rfl
  | succ n =>
    simp only [State.readsTo, hid, Option.getD_some]
    exact .inr ⟨trivial, _, rfl⟩

/-- Whether a design is that of the staging step. -/
theorem stagingDesign_of_staging {s : State} {st : Staging} {id : Nat} (hst : s.pcm.staging = some st) :
    s.stagingDesign id = decide (s.pickDesign st.pick = some id) := by
  simp [State.stagingDesign, hst]

/-- Reads are settled for the composition in flight on the design written (R60, R70). -/
theorem settleReads_composing {s : State} {p : Pick} {r : Reads} {id : Nat} (hst : s.pcm.staging = some ⟨p, .composing r⟩)
    (hid : s.pickDesign p = some id) :
    s.settleReads id =
      { s with pcm.staging := some ⟨p, .composing (s.readsTo p (Config.composerReads s.free) r)⟩, free := s.free + 1 } := by
  simp only [State.settleReads, hst, hid, if_true, State.readAhead]

/-- No reads are settled with no record, one of another design, or one that is composed. -/
theorem settleReads_none {s : State} {id : Nat}
    (h : ∀ p r, s.pcm.staging = some ⟨p, .composing r⟩ → s.pickDesign p ≠ some id) : s.settleReads id = s := by
  unfold State.settleReads
  split
  · next p r hst => exact if_neg (h p r hst)
  · rfl

/-- A write to the pattern store under a live edit does what the statements say of it (R55, R60, R93). -/
theorem liveEdited_ps (s : State) (ps : Ps) (id : Nat) :
    LiveEdited s { s with ps := ps } (State.invalidateFor { s.settleReads id with ps := ps } s id) id := by
  constructor
  · intro other
    have settled : s.settleReads id = s := settleReads_none fun p r hst => other _ hst
    have : s.stagingDesign id = false := by
      cases hst : s.pcm.staging with
      | none => simp [State.stagingDesign, hst]
      | some st => rw [stagingDesign_of_staging hst]; exact decide_eq_false (other st hst)
    rw [settled, State.invalidateFor, this]
    rfl
  · intro st hst woven
    have : s.stagingDesign id = true := by rw [stagingDesign_of_staging hst]; exact decide_eq_true woven
    rw [State.invalidateFor, if_pos this]
    refine ⟨fun late => ?_, fun r composing => ?_⟩
    · rw [settleReads_none fun p r h => by rw [hst] at h; cases h; exact absurd rfl (late r)]
      exact invalidated_invalidate _
    · obtain ⟨p, phase⟩ := st
      subst composing
      rw [settleReads_composing hst woven, State.invalidate_of_early _ (by rintro st ⟨⟩; exact ⟨_, rfl⟩)]
      refine ⟨_, rfl, (readsTo_cases s p _ id r woven).imp_right ?_⟩
      rintro ⟨slots, m, rows⟩
      exact ⟨slots.trans (by cases r.slots <;> rfl), _, m, rows, fun d col hd hc => readCell_readRow hd hc⟩

/-- What a live edit does rests on nothing of the design link port. -/
theorem liveEdited_port {s u t : State} {id : Nat} {x : Dlp} (h : LiveEdited { s with dlp := x } { u with dlp := x } t id) :
    LiveEdited s u { t with dlp := u.dlp } id := by
  obtain ⟨other, woven⟩ := h
  refine ⟨fun h => by rw [other h], fun st hst hw => ?_⟩
  obtain ⟨late, composing⟩ := woven st hst hw
  refine ⟨fun h => invalidated_port (late h), fun r hr => ?_⟩
  obtain ⟨reads, rfl, taken⟩ := composing r hr
  exact ⟨reads, rfl, taken⟩

/-- A live edit leaves the design link port but for an answer of a wait. -/
theorem sameFrame_invalidateFor (s before : State) (id : Nat) : SameFrame (s.invalidateFor before id).dlp s.dlp := by
  unfold State.invalidateFor
  split
  · obtain ⟨hf, hs, -, -⟩ := invalidate_stands s
    exact ⟨hf, hs⟩
  · exact ⟨rfl, rfl⟩

/-- The window a write goes on from: its start corner, or where its cursor stands (R58). -/
def writeStart (fromStart : Bool) (w : Window) : Window := if fromStart then w.home else w

/-- The state once some colours are written and the staging record has met the edit (R58, R60, R93). -/
def cellsWritten (s : State) (d : Design) (colours : List Colour) (start : Window) : State :=
  State.invalidateFor
    { s.settleReads start.design with ps := { s.ps with
      cells := (writeAtCursor d colours s.ps.cells start).1, window := some (writeAtCursor d colours s.ps.cells start).2 } }
    s start.design

/-- A write leaves the frame received and the bytes shifted out. -/
theorem sameFrame_cellsWritten (s : State) (d : Design) (colours : List Colour) (start : Window) :
    SameFrame (cellsWritten s d colours start).dlp s.dlp := by
  rw [← show (s.settleReads start.design).dlp = s.dlp by simp]
  exact sameFrame_invalidateFor _ _ _

/-- With a payload of the right length and a window on a present design, a write asks for the count and the lock (R58). -/
theorem takeCells_window {s : State} {fromStart : Bool} {count : BitVec 16} {packed : List Byte} {w : Window} {d : Design}
    (hs : packed.length = (count.toNat + 1) / 2) (hw : s.ps.window = some w) (hd : s.design? w.design = some d) :
    takeCells fromStart count packed s =
      if count.toNat = 0 ∨ 2048 < count.toNat then .refuse .badField s
      else if s.writeLocked w.design then .refuse .locked s
      else
        .accept
          (bytes16 count ++ (writeAtCursor d (unpackCells count.toNat packed) s.ps.cells (writeStart fromStart w)).2.cursorPayload)
          (cellsWritten s d (unpackCells count.toNat packed) (writeStart fromStart w)) := by
  unfold takeCells
  rw [if_neg (by simpa [packedLength] using hs), hw]
  have start : (writeStart fromStart w).design = w.design := by cases fromStart <;> rfl
  have ps : (s.settleReads w.design).ps = s.ps := by simp
  simp only [hd, cellsWritten, start, ps]
  rfl

/-- Whether a write to a present design is refused LOCKED (R54, R55). -/
theorem writeLocked_iff {s : State} {id : Nat} {d : Design} (hd : s.design? id = some d) :
    s.writeLocked id = true ↔
      (∃ r ∈ s.pq.steps, r.design = id ∧ (r.state = .opened ∨ r.state = .closed)) ∧ d.liveEdit = false := by
  have state (r : StepRec) : r.state ≠ .waiting ↔ r.state = .opened ∨ r.state = .closed := by cases r.state <;> simp
  simp [State.writeLocked, State.locked, hd, state]

/-- Settles O46: the tests in order; the cells by the visits of the cursor; the staging record by the live edit. -/
theorem cellWrites : Obligations.CellWrites := by
  intro s fromStart count packed hb canonical c n sized counted locked
  have owner : ownerOf c = some (takeCells fromStart count packed) := by cases fromStart <;> rfl
  refine ⟨fun h => refuses_of_owner owner hb (if_pos h), fun h hw => refuses_of_owner owner hb ?_, ?_⟩
  · simp only [takeCells, State.frameIn_ps, hw]
    exact if_neg (not_not.2 h)
  intro w d hsized hw hd barred start visit address colour
  have asks := fun f : List Byte => takeCells_window (s := s.frameIn f) (fromStart := fromStart) hsized hw hd
  refine ⟨fun hc => refuses_of_owner owner hb ((asks _).trans (if_pos ?_)), fun hc hl => refuses_of_owner owner hb ((asks _).trans ?_),
    fun hc hl => ?_⟩
  · simp only [counted] at hc
    omega
  · rw [if_neg (by simp only [counted] at hc; omega)]
    exact if_pos ((writeLocked_iff hd).2 hl)
  obtain ⟨length, colours⟩ := unpackCells_eq hsized
  have cursor : (writeAtCursor d (unpackCells n packed) s.ps.cells start).2 = visit n := by rw [writeAtCursor_window, length]
  have home : writeStart fromStart w = start := by cases fromStart <;> rfl
  have design : start.design = w.design := by rw [← home]; cases fromStart <;> rfl
  have written := asks (frameOf c)
  rw [if_neg (by simp only [counted] at hc; omega), if_neg (by exact mt (writeLocked_iff hd).1 hl), home] at written
  refine ⟨(writeAtCursor d (unpackCells n packed) s.ps.cells start).1, _,
    accepts_of_owner owner hb (written.trans ?_) (sameFrame_cellsWritten _ d (unpackCells n packed) start), ?_,
    writeAtCursor_wf _ _ _ canonical, fun a ha => ?_, fun k hk last => ?_⟩
  · rw [show (s.frameIn (frameOf c)).ps = s.ps from rfl, cursor, Window.cursorPayload, ← List.append_assoc]
    rfl
  · rw [← cursor, ← design]
    exact liveEdited_port (x := (s.frameIn (frameOf c)).dlp) (liveEdited_ps (s.frameIn (frameOf c)) _ _)
  · exact readCell_writeAtCursor_other d _ _ canonical (by rw [length]; exact ha)
  · have hk' : k < (unpackCells n packed).length := by rw [length]; exact hk
    exact (readCell_writeAtCursor_visited d _ _ canonical hk' (by rw [length]; exact last)).trans (colours k hk')

end Sys2Proof.Machine.Program
end

section
/-! COMPOSE delivered (R5, R81): the composition it begins, and the step that opens (R38, R39). -/

namespace Sys2Proof.Machine.Program

open Sys2Proof Sys2Proof.Machine

/-! ### A forward step with one event -/

/-- The state a forward step leaves before its events are delivered (R1, R4, R160). -/
def stepped (s : State) : State := State.countRelease { s with stu := s.stu.forward }

/-- With no release counted a forward step moves the shaft alone. -/
theorem stepped_of_no_release {s : State} (h : s.wsu.release = none) : stepped s = { s with stu := s.stu.forward } := by
  unfold stepped State.countRelease
  split
  · next hr => exact absurd (h.symm.trans hr) (by simp)
  · rfl

/-- The release count leaves the finger. -/
theorem stepped_finger (s : State) : (stepped s).wsu.finger = s.wsu.finger := by
  unfold stepped State.countRelease
  split <;> rfl

/-- An event alone on its step is delivered in RUNNING, where no engagement waits (R4, R5). -/
theorem exec_forwardStep_single {s : State} {early : BitVec 4} {e : AngleEvent} (running : s.stu.weaving = .running)
    (fired : s.stu.firedAt (s.stu.position + 1).val = [e]) (still : ∀ c b, s.wsu.finger ≠ .waiting c b) :
    exec (.forwardStep early) s = .next ((stepped s).deliver early e) := by
  have weaving : (stepped s).stu.weaving = .running := by simpa [stepped, Stu.forward] using running
  have idle : (stepped s).engagementDue = false := by
    unfold State.engagementDue
    rw [weaving, stepped_finger]
    split
    · next hf => exact absurd hf (still _ _)
    · rfl
  have parts : (stepped s).stepParts [e] = [.angle e] := by simp [State.stepParts, weaving, idle]
  have step : s.forwardStep early = (stepped s).takePart early (.angle e) := by
    have turn : s.forwardStep early = let turn := (stepped s).freely ((stepped s).stepParts (s.stu.firedAt (s.stu.position + 1).val))
        turn.1.foldl (State.takePart early) turn.2 := rfl
    rw [turn, fired, parts]
    rfl
  show Host.Outcome.next (s.forwardStep early) = _
  rw [step]
  simp only [State.takePart, weaving]

/-! ### Event flags -/

/-- The bit of one flag as another reads it (R188). -/
theorem bit_getLsbD (f g : EventFlag) : f.bit.getLsbD g.index = decide (f = g) := by
  cases f <;> cases g <;> rfl

/-! ### COMPOSE -/

/-- The channel check of a record that the engaged finger serves, in RUNNING (R163, R165). -/
theorem checkChannel_cases {s : State} {st : Staging} {x : Nat} (hst : s.pcm.staging = some st)
    (hg : s.wsu.servedG = some st.pick.g) (hf : s.wsu.finger = .engaged x) (running : s.stu.weaving = .running) :
    ∃ c map evs, Resolves s st.pick.weft c map evs ∧
      (x = c → s.checkChannel =
        { s with evs := evs, wsu.map := map, pcm.staging := some { st with pick.channel := some c } }) ∧
      (x ≠ c → 0 < s.stu.active.dead → s.checkChannel =
        { s with stu.armed.weftSelect := false, evs := evs
                 wsu := { s.wsu with map := map, finger := .waiting c false
                                     release := some { dead := s.stu.active.dead, count := 0 } } }) ∧
      (x ≠ c → s.stu.active.dead = 0 → (∀ p, s.ph.shed = some p → p.channel ≠ none) → s.checkChannel =
        { s with stu.armed.weftSelect := false, evs := evs
                 wsu := { s.wsu with map := map, finger := .engaged c, release := none }
                 pcm.staging := some { st with pick.channel := some c } }) := by
  refine ⟨_, _, _, resolves_resolve s st.pick.weft, fun same => ?_, fun other dead => ?_, fun other dead served => ?_⟩
  · subst same
    exact checkChannel_same hst hg hf rfl
  · exact checkChannel_waits hst hg hf other running dead
  · exact checkChannel_engages hst hg hf other running dead served

/-- COMPOSE is let pass with a record in staging, and for a shed marked last (R81, R33). -/
theorem compose_passed {s : State} (h : s.pcm.staging.isSome ∨ s.pcm.marked = true) : s.compose = s := by
  unfold State.compose
  split
  · next hst => rw [if_pos (h.resolve_left (by simp [hst]))]
  · rfl

/-- COMPOSE begins a composition where staging is EMPTY and the shed is not marked last (R81). -/
theorem compose_begins {s : State} (hst : s.pcm.staging = none) (hm : s.pcm.marked = false) : s.compose = s.beginComposition := by
  simp [State.compose, hst, hm]

/-- A step that is not PENDING is extended when it runs short, and stands otherwise (R34, R38). -/
theorem entered_standing {s : State} {seq : BitVec 16} {starved : Bool} {r : StepRec} (hr : s.step? seq = some r)
    (hw : r.state ≠ .waiting) : entered s seq starved = if starved then s.extendStep seq else s := by
  cases starved with
  | false => exact enterStep_standing hr hw
  | true => exact enterStep_standing (extendStep_step? hr) hw

/-- The record of a pick that has entered staging (R78, R80, R81, R35). -/
theorem newPick_eq {s : State} {seq : BitVec 16} {r : StepRec} (t : Nat) (starved : Bool) (hr : s.step? seq = some r) :
    (entered s seq starved).newPick (enteredStep s.pq.steps r starved r) t =
      { g := s.nextG, seq := r.seq, t := t, row := r.designRow t, k := t % r.p
        weft := (tabGet s.wsu.sequences r.weftSeq []).getD (t % (tabGet s.wsu.sequences r.weftSeq []).length) 0
        channel := none, lift := 0, forcedDown := 0, forcedUp := 0, unresolved := 0 } := by
  obtain rfl := step?_seq hr
  have weft := logicalWeft_of_step t (entered_step? starved hr)
  rw [(queueMoved_entered s starved).stands.1] at weft
  obtain ⟨hg, -, -, -⟩ := newPick_entered (seq := r.seq) s (enteredStep s.pq.steps r starved r) t starved
  simp only [State.newPick] at hg ⊢
  rw [hg, show (enteredStep s.pq.steps r starved r).seq = r.seq from rfl, weft]
  rfl

/-- The design row of a pick, with its cases written out (R86). -/
theorem designRow_eq (r : StepRec) (t : Nat) :
    r.designRow t =
      let l := r.rowLast + 1 - r.rowFirst
      let period := match r.vmode with | .straight => l | .point => max 1 (2 * l - 2)
      let u := t / r.p % period
      match r.vmode with
        | .straight => r.rowFirst + u
        | .point => if u < l then r.rowFirst + u else r.rowFirst + (2 * l - 2 - u) := by
  unfold StepRec.designRow StepRec.period
  cases r.vmode <;> rfl

/-- Settles O26: COMPOSE is the composition's beginning; its record begun, the three ways of the channel check give the three cases. -/
theorem composeDelivered : Obligations.ComposeDelivered := by
  intro s early running fired still release moved
  have delivered : exec (.forwardStep early) s = .next moved.compose := by
    rw [exec_forwardStep_single running fired still, stepped_of_no_release release]
    rfl
  rw [delivered]
  refine ⟨fun h => congrArg Host.Outcome.next (compose_passed (s := moved) h), fun hst hm hn => ?_, ?_⟩
  · exact congrArg Host.Outcome.next ((compose_begins (s := moved) hst hm).trans (beginComposition_of_none hn))
  intro seq t starved r hst hm hn hr standing l period u row sequence weft g record begun
  have begins : moved.compose = begun.checkChannel := by
    have unmarked : { begun with pcm.marked := s.pcm.marked } = begun := rfl
    rw [hm] at unmarked
    rw [compose_begins (s := moved) hst hm, beginComposition_of_pick (s := moved) hn hr, newPick_eq (s := moved) t starved hr,
      entered_standing (s := moved) hr standing, designRow_eq, nextG_eq, ← unmarked]
    cases starved <;> rfl
  have hst : begun.pcm.staging = record none := rfl
  refine ⟨fun h => congrArg Host.Outcome.next (begins.trans (checkChannel_unserved hst h)), fun x hg hf => ?_⟩
  obtain ⟨c, map, evs, resolves, same, waits, engages⟩ := checkChannel_cases hst hg hf running
  exact ⟨c, map, evs, resolves, fun h => congrArg Host.Outcome.next (begins.trans (same h)),
    fun h dead => congrArg Host.Outcome.next (begins.trans (waits h dead)),
    fun h dead served => congrArg Host.Outcome.next (begins.trans (engages h dead served))⟩

end Sys2Proof.Machine.Program
end

section
/-! A PENDING step opens as its pick 0 enters staging (R38, R39). -/

namespace Sys2Proof.Machine.Program

open Sys2Proof Sys2Proof.Machine

section Opens

variable {s : State} {before after : List StepRec} {r : StepRec}

/-- The first PENDING record after records that are not. -/
theorem firstPending_split (hb : ∀ x ∈ before, x.state ≠ .waiting) (hw : r.state = .waiting) :
    firstPending (before ++ r :: after) = some r := by
  rw [firstPending, List.find?_append, List.find?_eq_none.2 (by simpa using hb)]
  simp [hw]

/-- It is the first PENDING record after a step before it, too. -/
theorem firstPending_stepsAfter {x : StepRec} (hb : ∀ y ∈ before, y.state ≠ .waiting) (hw : r.state = .waiting) (hx : x ∈ before) :
    firstPending (stepsAfter (before ++ r :: after) x.seq) = some r := by
  induction before with
  | nil => cases hx
  | cons y rest ih =>
    have hrest : ∀ z ∈ rest, z.state ≠ .waiting := fun z hz => hb z (List.mem_cons_of_mem _ hz)
    by_cases hy : y.seq = x.seq
    · simpa [stepsAfter, hy] using firstPending_split (after := after) hrest hw
    · have : x ∈ rest := (List.mem_cons.1 hx).resolve_left fun h => hy (h ▸ rfl)
      simpa [stepsAfter, hy] using ih hrest this

/-- What asks for pick 0 of the first PENDING step: no shed, or the shed at the last pick of a step before it (R32, R33). -/
def AtStepEnd (s : State) (before : List StepRec) : Prop :=
  s.ph.shed = none ∨ ∃ p x, s.ph.shed = some p ∧ s.step? p.seq = some x ∧ x ∈ before ∧ x.n * x.period * x.p ≤ p.t + 1

/-- The queue then answers with pick 0 of that step (R33). -/
theorem nextAnswer_opens (hq : s.pq.steps = before ++ r :: after) (hb : ∀ x ∈ before, x.state ≠ .waiting) (hw : r.state = .waiting)
    (h : AtStepEnd s before) : s.nextAnswer = .pick r.seq 0 false := by
  rcases h with hn | ⟨p, x, hp, hx, hmem, last⟩
  · exact nextAnswer_of_first hn (hq ▸ firstPending_split hb hw)
  · rw [nextAnswer_of_shed hp hx]
    refine (successorIn_cases s.pq.steps x p.t).2.1 (Nat.not_lt.2 last) r ?_
    rw [hq]
    exact firstPending_stepsAfter hb hw hmem

/-- The row_base of a step that follows some records (R38). -/
theorem openingBase_split (hb : ∀ x ∈ before, x.seq ≠ r.seq) :
    openingBase (before ++ r :: after) r.seq = match before.getLast? with
      | some x => x.rowBase.getD 0 + BitVec.ofNat 32 (x.n * x.period)
      | none => 0 := by
  rw [openingBase, takeWhile_split hb]
  cases before.getLast? <;> rfl

/-- The record of a seq that no other has, changed within the queue. -/
theorem map_update_split (hb : ∀ x ∈ before, x.seq ≠ r.seq) (ha : ∀ x ∈ after, x.seq ≠ r.seq) (f : StepRec → StepRec) :
    ((before ++ r :: after).map fun x => if x.seq = r.seq then f x else x) = before ++ f r :: after := by
  have same {l : List StepRec} (hl : ∀ x ∈ l, x.seq ≠ r.seq) : (l.map fun x => if x.seq = r.seq then f x else x) = l :=
    (List.map_congr_left fun x hx => if_neg (hl x hx)).trans (List.map_id l)
  rw [List.map_append, List.map_cons, same hb, same ha, if_pos rfl]

/-- The event unit once a step has opened: STEP_OPENED with its detail, and QUEUE_LOW when too few records are PENDING (R38, R39). -/
theorem openStep_evs (s : State) (r : StepRec) :
    (s.openStep r).evs = { s.evs with
      flags := if countSteps (s.openStep r).pq.steps .waiting < s.pq.watermark
        then s.evs.flags ||| EventFlag.stepOpened.bit ||| EventFlag.queueLow.bit else s.evs.flags ||| EventFlag.stepOpened.bit
      opened := some (r.seq, r.tag) } := by
  have pq : (s.openStep r).pq = (s.updateStep r.seq fun x =>
      { x with state := .opened, rowBase := some (openingBase s.pq.steps r.seq) }).pq := by simp [State.openStep]
  rw [pq]
  simp only [State.openStep, State.checkWatermark, State.occur_frame, State.raise_pq, State.updateStep]
  split <;> simp [State.raise]

/-- The flags once a step has opened. -/
theorem openStep_flags (s : State) (r : StepRec) :
    (s.openStep r).flag .stepOpened = true ∧
    (countSteps (s.openStep r).pq.steps .waiting < s.pq.watermark → (s.openStep r).flag .queueLow = true) ∧
    (s.pq.watermark ≤ countSteps (s.openStep r).pq.steps .waiting → (s.openStep r).flag .queueLow = s.flag .queueLow) := by
  simp only [State.flag, openStep_evs]
  refine ⟨?_, fun low => ?_, fun enough => ?_⟩
  · split <;> simp [bit_getLsbD]
  · simp [low, bit_getLsbD]
  · simp [Nat.not_lt.2 enough, bit_getLsbD]

end Opens

/-- Settles O27: the queue answers with pick 0 of the first PENDING step, which opens; no finger is engaged, so its channel is not checked. -/
theorem stepOpens : Obligations.StepOpens := by
  intro s early before after r running fired hfinger release hst hm hshed hq hbefore hafter hw base left g
  have hb : ∀ x ∈ before, x.seq ≠ r.seq := fun x hx => (hbefore x hx).2
  have hr : s.step? r.seq = some r := by rw [State.step?, hq, find_split hb]
  let moved : State := { s with stu := s.stu.forward }
  have hn : moved.nextAnswer = .pick r.seq 0 false := nextAnswer_opens (s := s) hq (fun x hx => (hbefore x hx).1) hw hshed
  obtain ⟨e, p, hmoved, he, hp, begins⟩ := begins_of_pick (d := moved) hn hr
  obtain ⟨hg, hseq, ht, -⟩ : p.g = moved.nextG ∧ p.seq = r.seq ∧ p.t = 0 ∧ p.channel = none := by simpa using hp
  have opened : e = moved.openStep r := he.trans (enterStep_waiting (s := moved) hr hw)
  have checked : (recorded e p).checkChannel = recorded e p :=
    checkChannel_unserved rfl (.inr fun c => by rw [show (recorded e p).wsu = moved.wsu from hmoved.stands.1]; simp [moved, hfinger])
  have delivered : exec (.forwardStep early) s = .next (recorded e p) := by
    rw [exec_forwardStep_single running fired (by simp [hfinger]), stepped_of_no_release release]
    exact congrArg Host.Outcome.next ((compose_begins (s := moved) hst hm).trans (begins.trans checked))
  have steps : e.pq.steps = before ++ { r with state := .opened, rowBase := some base } :: after := by
    have opensAt : openingBase moved.pq.steps r.seq = base := by
      rw [show moved.pq.steps = before ++ r :: after from hq]
      exact openingBase_split hb
    rw [opened, openStep_steps, opensAt]
    show (s.pq.steps.map _) = _
    rw [hq, map_update_split hb hafter fun x => { x with state := .opened, rowBase := some base }]
  have waiting : countSteps e.pq.steps .waiting = left := by
    rw [steps, countSteps, List.countP_append, List.countP_eq_zero.2 (by simpa using fun x hx => (hbefore x hx).1)]
    simp [left, countSteps]
  obtain ⟨flagOpened, flagLow, flagKept⟩ := openStep_flags moved r
  rw [← opened, waiting] at flagLow flagKept
  rw [← opened] at flagOpened
  refine ⟨recorded e p, delivered, ?_, flagOpened, ?_, flagLow, flagKept, ?_, ?_, ?_⟩
  · rw [← steps]
    obtain ⟨_, _, _, _, _, _, _, _, _, moved_eq⟩ := hmoved
    rw [moved_eq]
    rfl
  · show e.evs.opened = _
    rw [opened, openStep_evs]
  · have numbered : p.g = g := hg.trans (nextG_eq moved)
    show some (p.seq, p.t, p.g) = _
    rw [hseq, ht, numbered]
  · obtain ⟨_, _, _, _, _, _, _, _, _, moved_eq⟩ := hmoved
    have unmarked : (recorded e p).pcm = { s.pcm with staging := (recorded e p).pcm.staging, programEnd := false, marked := false } := by
      rw [moved_eq]
      rfl
    exact unmarked.trans (by simp only [hm])
  · obtain ⟨_, _, _, _, _, _, _, _, _, moved_eq⟩ := hmoved
    rw [moved_eq]
    rfl

end Sys2Proof.Machine.Program
end

section
/-! The warp floats that end at a latch, counted by length (R104). -/

namespace Sys2Proof.Machine.Program

open Sys2Proof Sys2Proof.Machine

/-- Counting nothing leaves a counter. -/
theorem satAdd_zero (c : Counter) : satAdd c 0 = c := by
  have := c.isLt
  apply BitVec.eq_of_toNat_eq
  rw [satAdd, BitVec.toNat_ofNat]
  omega

/-- Counting twice counts the sum (R190). -/
theorem satAdd_satAdd (c : Counter) (a b : Nat) : satAdd (satAdd c a) b = satAdd c (a + b) := by
  have := c.isLt
  apply BitVec.eq_of_toNat_eq
  simp only [satAdd, BitVec.toNat_ofNat]
  omega

/-- The floats of a list of run counters that end under a lift with lengths within some bounds (R104). -/
def endedRuns (l : Lift) (low high : Nat) (runs : Runs) : Nat :=
  runs.countP fun r => !l.getLsbD r.1 && decide (low ≤ r.2 ∧ r.2 ≤ high)

/-- The histogram with a count added to each bin. -/
def addBins (x : FloatStats) (count : Nat → Nat → Nat) : FloatStats :=
  { x with float1 := satAdd x.float1 (count 1 1), float2 := satAdd x.float2 (count 2 3), float4 := satAdd x.float4 (count 4 7)
           float8 := satAdd x.float8 (count 8 15), float16 := satAdd x.float16 (count 16 31)
           float32 := satAdd x.float32 (count 32 32) }

theorem addBins_addBins (x : FloatStats) (c d : Nat → Nat → Nat) :
    addBins (addBins x c) d = addBins x fun low high => c low high + d low high := by
  simp only [addBins, satAdd_satAdd]

/-- A float of a legal length is counted in the bin that holds it (R104). -/
theorem countFloat_eq (x : FloatStats) {n : Nat} (h : 1 ≤ n) (h' : n ≤ 32) :
    x.countFloat n = addBins x fun low high => if low ≤ n ∧ n ≤ high then 1 else 0 := by
  rcases (by omega : n ≤ 1 ∨ 1 < n ∧ n ≤ 3 ∨ 3 < n ∧ n ≤ 7 ∨ 7 < n ∧ n ≤ 15 ∨ 15 < n ∧ n ≤ 31 ∨ 31 < n) with
    b | b | b | b | b | b <;>
  · simp only [FloatStats.countFloat, addBins, bump]
    grind [satAdd_zero]

/-- The histogram after the floats of some run counters of legal lengths have ended (R104). -/
theorem endFloats_eq (x : FloatStats) (l : Lift) (runs : Runs) (h : ∀ r ∈ runs, 1 ≤ r.2 ∧ r.2 ≤ 32) :
    x.endFloats l runs = addBins x fun low high => endedRuns l low high runs := by
  induction runs generalizing x with
  | nil => simp [FloatStats.endFloats, addBins, endedRuns, satAdd_zero]
  | cons r rest ih =>
    obtain ⟨low, high⟩ := h r (List.mem_cons_self ..)
    have ih := fun y => ih y fun r' hr' => h r' (List.mem_cons_of_mem _ hr')
    have first : x.endFloats l (r :: rest) =
        FloatStats.endFloats (if l.getLsbD r.1 = false ∧ 0 < r.2 then x.countFloat r.2 else x) l rest := rfl
    rw [first, ih]
    cases hl : l.getLsbD r.1 with
    | true => simp [endedRuns, hl]
    | false =>
      rw [if_pos ⟨rfl, low⟩, countFloat_eq x low high, addBins_addBins]
      congr 1
      funext a b
      simp [endedRuns, List.countP_cons, hl, Nat.add_comm]

/-- A hook that no run counter lists has 0. -/
theorem runOf_of_not_mem {runs : Runs} {h : Nat} (hn : ∀ r ∈ runs, r.1 ≠ h) : runOf runs h = 0 := by
  induction runs with
  | nil => rfl
  | cons r rest ih =>
    rw [runOf, if_neg (hn r (List.mem_cons_self ..))]
    exact ih fun r' hr' => hn r' (List.mem_cons_of_mem _ hr')

/-- Two counts below a bound that differ at one number alone. -/
theorem countP_range_of_one {n a : Nat} {p q : Nat → Bool} (ha : a < n) (hq : q a = false) (same : ∀ h, h ≠ a → p h = q h) :
    (List.range n).countP p = (List.range n).countP q + (p a).toNat := by
  induction n with
  | zero => cases ha
  | succ n ih =>
    rw [List.range_succ, List.countP_append, List.countP_append]
    by_cases h : a = n
    · subst h
      have : (List.range a).countP p = (List.range a).countP q :=
        List.countP_congr fun x hx => by rw [same x (Nat.ne_of_lt (List.mem_range.1 hx))]
      cases hp : p a <;> simp [this, hp, hq]
    · rw [ih (by omega)]
      simp only [List.countP_singleton, same n (Ne.symm h)]
      omega

/-- Counting the floats that end hook by hook counts the run counters listed (R104). -/
theorem endedFloats_eq {l : Lift} {runs : Runs} {low high : Nat} (sorted : runs.Pairwise fun x y => x.1 < y.1)
    (inRange : ∀ r ∈ runs, r.1 < 12288) (hlow : 1 ≤ low) : endedFloats l runs low high = endedRuns l low high runs := by
  induction runs with
  | nil => simp [endedFloats, endedRuns, runOf, Nat.not_le.2 hlow]
  | cons r rest ih =>
    rw [List.pairwise_cons] at sorted
    have ih := ih sorted.2 fun r' hr' => inRange r' (List.mem_cons_of_mem _ hr')
    have absent : runOf rest r.1 = 0 := runOf_of_not_mem fun r' hr' => Nat.ne_of_gt (sorted.1 r' hr')
    rw [endedFloats] at ih ⊢
    rw [countP_range_of_one (a := r.1)
      (q := fun h => !l.getLsbD h && decide (low ≤ runOf rest h ∧ runOf rest h ≤ high)) (inRange r (List.mem_cons_self ..))
      (by simp [absent, Nat.not_le.2 hlow]) (fun h hh => by simp only [runOf, if_neg (Ne.symm hh)]), ih]
    simp only [endedRuns, List.countP_cons, runOf, if_true]
    cases !l.getLsbD r.1 && decide (low ≤ r.2 ∧ r.2 ≤ high) <;> rfl

/-- The floats that end at a latch are counted as the statements say (R104). -/
theorem endFloats_eq_ended (x : FloatStats) (l : Lift) {lwarp : Nat} {runs : Runs} (h : RunsWithin lwarp runs) :
    x.endFloats l runs = x.ended l runs := by
  obtain ⟨sorted, within⟩ := h
  have count (low high : Nat) (hlow : 1 ≤ low) : endedFloats l runs low high = endedRuns l low high runs :=
    endedFloats_eq sorted (fun r hr => (within r hr).1) hlow
  rw [endFloats_eq x l runs fun r hr => ⟨(within r hr).2.1, (within r hr).2.2.1⟩]
  simp [addBins, FloatStats.ended, count]

end Sys2Proof.Machine.Program
end

section
/-! LATCH with a TRANSFERRED record (R136, R104, R115, R41): what each of its parts leaves. -/

namespace Sys2Proof.Machine.Program

open Sys2Proof Sys2Proof.Machine

variable {s : State} {p : Pick} {runs : Runs}

/-! ### The old shed is made woven -/

/-- A ring with room takes a woven record at its new end (R115). -/
theorem joinRing_room (h : s.ph.ring.length < 96) : s.joinRing p = { s with ph.ring := s.ph.ring ++ [p] } := if_pos h

/-- A full ring drops its oldest record and reports it (R116). -/
theorem joinRing_full {first : Pick} {rest : List Pick} (hr : s.ph.ring = first :: rest) (h : s.ph.ring.length = 96) :
    s.joinRing p = State.dropReported { s with ph.ring := rest ++ [p], ph.origin := false } first.seq := by
  unfold State.joinRing
  rw [if_neg (by rw [h]; decide), hr]
  rfl

/-- The step of a dropped record leaves the queue when it is CLOSED and no ring record refers to it any longer (R42). -/
theorem dropReported_frees {seq : BitVec 16} {x : StepRec} (hx : s.step? seq = some x) (hc : x.state = .closed)
    (hr : ∀ q ∈ s.ph.ring, q.seq ≠ seq) : s.dropReported seq = s.freeStep seq := by
  simp only [State.dropReported, hx, hc, true_and]
  exact if_pos (by simpa using hr)

/-- Any other step of a dropped record stays (R42). -/
theorem dropReported_keeps {seq : BitVec 16}
    (h : ¬ ((∀ q ∈ s.ph.ring, q.seq ≠ seq) ∧ ∃ x, s.step? seq = some x ∧ x.state = .closed)) : s.dropReported seq = s := by
  unfold State.dropReported
  split
  · next x hx =>
    refine if_neg fun hf => h ⟨?_, x, hx, hf.1⟩
    simpa using hf.2
  · rfl

/-- What making a pick woven does to the blocks it reaches (R80, R115, R149, R169). -/
theorem makeWoven_blocks (s : State) (p : Pick) :
    (s.makeWoven p).pcm = { s.pcm with nextPick := p.g + 1 } ∧ (s.makeWoven p).evs = { s.evs with weft := s.evs.weft.countWoven p.channel } ∧
    (s.makeWoven p).ph = (s.joinRing p).ph ∧ (s.makeWoven p).pq = (s.joinRing p).pq ∧
    (s.hft.agingCounter + 1 < s.hft.agingPeriod → (s.makeWoven p).hft = { s.hft with agingCounter := s.hft.agingCounter + 1 }) ∧
    (s.hft.agingPeriod ≤ s.hft.agingCounter + 1 →
      (s.makeWoven p).hft = { s.hft with agingCounter := 0, entries := s.hft.entries.filterMap FaultEntry.age }) := by
  refine ⟨by simp [State.makeWoven], by simp [State.makeWoven], by simp [State.makeWoven], by simp [State.makeWoven], fun h => ?_, fun h => ?_⟩
  · simp [State.makeWoven, State.countAging, Nat.not_le.2 h]
  · simp [State.makeWoven, State.countAging, h, State.agingPass]

/-! ### The parts of the latch -/

/-- The state once the strobe is made and the warp floats that end are counted (R136, R104). -/
def strobed (s : State) (p : Pick) (runs : Runs) : State :=
  State.latchFloats { s with hcu.chains := tabMap (fun _ (c : Chain) => c.strobeTransfer) s.hcu.chains } p runs

/-- The state once the old shed is woven and the new one stands (R115). -/
def shedTaken (s : State) (p : Pick) (runs : Runs) : State :=
  { (strobed s p runs).weaveShed s.ph.shed with ph.shed := some p, pcm.staging := none }

/-- A latch in its parts: the shed taken, the old shed's step closed, the event told. -/
theorem pickLatch_eq (s : State) (p : Pick) (runs : Runs) :
    s.pickLatch p runs = ((shedTaken s p runs).closeOld s.ph.shed).occur .latchDone := rfl

/-- What the strobe and the warp floats do to the blocks they reach (R104, R136). -/
theorem strobed_blocks (s : State) (p : Pick) (runs : Runs) :
    (strobed s p runs).flm = { s.flm with runs := runs } ∧
    (strobed s p runs).hcu = { s.hcu with chains := tabMap (fun _ (c : Chain) => c.strobeTransfer) s.hcu.chains } ∧
    (strobed s p runs).evs = { s.evs with
      floats := (s.evs.floats.endFloats p.lift s.flm.runs).addCounts p
      flags := if 0 < p.unresolved then s.evs.flags ||| EventFlag.floatUnresolved.bit else s.evs.flags } := by
  unfold strobed State.latchFloats
  dsimp only
  split
  · exact ⟨rfl, rfl, rfl⟩
  · exact ⟨rfl, rfl, rfl⟩

/-- The step of the old shed stays OPEN while the new shed lies in it, and is CLOSED with STEP_CLOSED otherwise (R41). -/
theorem closeStep_cases (hp : s.ph.shed = some p) (hst : s.pcm.staging = none) (seq : BitVec 16) :
    (seq = p.seq → s.closeStep seq = s) ∧
    (seq ≠ p.seq →
      (s.closeStep seq).pq = { s.pq with steps := s.pq.steps.map fun x => if x.seq = seq then { x with state := .closed } else x } ∧
      (s.closeStep seq).evs = { s.evs with flags := s.evs.flags ||| EventFlag.stepClosed.bit }) := by
  have holds : s.holdsStep seq = decide (p.seq = seq) := by simp [State.holdsStep, hp, hst]
  unfold State.closeStep
  rw [holds]
  refine ⟨fun h => by simp [h], fun h => ?_⟩
  rw [if_neg (by simpa using Ne.symm h)]
  simp [State.raise, State.updateStep]

/-- Closing the old shed's step moves what an answer of the queue moves. -/
theorem queueMoved_closeOld (s : State) (old : Option Pick) : QueueMoved s (s.closeOld old) := by
  unfold State.closeOld
  split
  · unfold State.closeStep
    split
    · exact .refl s
    · exact .trans ⟨_, _, _, _, _, _, _, _, _, rfl⟩ (queueMoved_occur _ _)
  · exact .refl s

/-- A strobe leaves a chain's state, shows on an ACTIVE chain what it shifted, and leaves the image of any other (R136). -/
theorem strobeTransfer_cases (c : Chain) :
    c.strobeTransfer.state = c.state ∧
    (∀ d b, c.state = .active → c.shift = some ⟨.transfer, d, b⟩ → c.strobeTransfer.image = d) ∧
    (c.state ≠ .active → c.strobeTransfer.image = c.image) := by
  unfold Chain.strobeTransfer
  split
  · next hs hd => exact ⟨rfl, fun d b _ h => by rw [hd] at h; cases h; rfl, fun h => absurd hs h⟩
  · next other => exact ⟨rfl, fun d b hs h => absurd h (other d b hs), fun _ => rfl⟩

end Sys2Proof.Machine.Program
end

section
/-! The pick latch as a whole (R136, R115, R41). -/

namespace Sys2Proof.Machine.Program

open Sys2Proof Sys2Proof.Machine

variable {s : State} {p old : Pick} {runs : Runs}

/-! ### The ring and the queue as the old shed joins the ring -/

/-- The step that leaves the queue as a record joins the ring: the CLOSED one of the record dropped, which no ring record refers to (R42). -/
def FreedBy (s : State) (p : Pick) (seq : BitVec 16) : Prop :=
  s.ph.ring.length = 96 ∧ (s.ph.ring.head?.map (·.seq)) = some seq ∧ (∀ q ∈ (s.ph.ring ++ [p]).drop 1, q.seq ≠ seq) ∧
    ∃ x, s.step? seq = some x ∧ x.state = .closed

/-- The queue as a record joins the ring: the CLOSED step of the record dropped is gone when nothing refers to it, and all else stands (R42). -/
def Kept (s : State) (p : Pick) (kept : List StepRec) : Prop :=
  (∀ seq, FreedBy s p seq → kept = s.pq.steps.filter fun x => x.seq ≠ seq) ∧ ((∀ seq, ¬ FreedBy s p seq) → kept = s.pq.steps)

/-- The ring as a record joins it (R115, R116). -/
theorem joinRing_ph (s : State) (p : Pick) :
    (s.ph.ring.length < 96 → (s.joinRing p).ph = { s.ph with ring := s.ph.ring ++ [p] }) ∧
    (s.ph.ring.length = 96 → (s.joinRing p).ph = { s.ph with ring := (s.ph.ring ++ [p]).drop 1, origin := false }) := by
  refine ⟨fun h => by rw [joinRing_room h], fun h => ?_⟩
  cases hr : s.ph.ring with
  | nil => rw [hr] at h; cases h
  | cons first rest => simp [joinRing_full hr h]

/-- The queue as a record joins the ring (R42). -/
theorem joinRing_pq {kept : List StepRec} (hlen : s.ph.ring.length ≤ 96) (h : Kept s p kept) :
    (s.joinRing p).pq = { s.pq with steps := kept } := by
  obtain ⟨freed, stands⟩ := h
  rcases Nat.lt_or_eq_of_le hlen with room | full
  · rw [joinRing_room room, stands fun seq hf => Nat.ne_of_lt room hf.1]
  cases hr : s.ph.ring with
  | nil => rw [hr] at full; cases full
  | cons first rest =>
    have only {seq : BitVec 16} (hf : FreedBy s p seq) : first.seq = seq := by
      obtain ⟨-, head, -⟩ := hf
      simpa [hr] using head
    rw [joinRing_full hr full]
    by_cases hf : (∀ q ∈ rest ++ [p], q.seq ≠ first.seq) ∧ ∃ x, s.step? first.seq = some x ∧ x.state = .closed
    · obtain ⟨unused, x, hx, hc⟩ := hf
      rw [dropReported_frees (s := { s with ph.ring := rest ++ [p], ph.origin := false }) hx hc unused,
        freed first.seq ⟨full, by simp [hr], by simpa [hr] using unused, x, hx, hc⟩]
      rfl
    · rw [dropReported_keeps (s := { s with ph.ring := rest ++ [p], ph.origin := false }) hf, stands fun seq h => ?_]
      obtain rfl := only h
      obtain ⟨-, -, unused, closed⟩ := h
      exact hf ⟨by simpa [hr] using unused, closed⟩

/-! ### What a latch leaves -/

/-- The blocks the strobe does not reach. -/
theorem strobed_frame (s : State) (p : Pick) (runs : Runs) :
    (strobed s p runs).ph = s.ph ∧ (strobed s p runs).pq = s.pq ∧ (strobed s p runs).pcm = s.pcm ∧ (strobed s p runs).hft = s.hft := by
  simp [strobed]

/-- What a latch leaves, by the state once the old shed is woven. -/
theorem pickLatch_blocks (s : State) (p : Pick) (runs : Runs) :
    (s.pickLatch p runs).ph = { ((strobed s p runs).weaveShed s.ph.shed).ph with shed := some p } ∧
    (s.pickLatch p runs).pcm = { ((strobed s p runs).weaveShed s.ph.shed).pcm with staging := none } ∧
    (s.pickLatch p runs).flm = { s.flm with runs := runs } ∧
    (s.pickLatch p runs).hcu = { s.hcu with chains := tabMap (fun _ (c : Chain) => c.strobeTransfer) s.hcu.chains } ∧
    (s.pickLatch p runs).hft = ((strobed s p runs).weaveShed s.ph.shed).hft := by
  obtain ⟨flm, hcu, -⟩ := strobed_blocks s p runs
  simp [pickLatch_eq, shedTaken, flm, hcu]

/-- A latch leaves the weaving state. -/
theorem pickLatch_weaving (s : State) (p : Pick) (runs : Runs) : (s.pickLatch p runs).stu.weaving = s.stu.weaving := by
  obtain ⟨-, -, -, weaving, -⟩ := ((queueMoved_closeOld (shedTaken s p runs) s.ph.shed).trans (queueMoved_occur _ .latchDone)).stands
  rw [pickLatch_eq, weaving]
  simp [shedTaken, strobed]

/-- With no old shed a latch moves the counters of the strobe alone. -/
theorem pickLatch_of_no_shed (hn : s.ph.shed = none) :
    (strobed s p runs).weaveShed s.ph.shed = strobed s p runs ∧ (s.pickLatch p runs).evs = (strobed s p runs).evs ∧
    (s.pickLatch p runs).pq = s.pq := by
  rw [pickLatch_eq]
  simp [hn, shedTaken, State.weaveShed, State.closeOld, strobed]

/-- The flags and the queue with an old shed: its step stays OPEN, or is CLOSED with STEP_CLOSED (R41, R42). -/
theorem pickLatch_of_shed (ho : s.ph.shed = some old) :
    (s.pickLatch p runs).evs = { (strobed s p runs).evs with
      weft := s.evs.weft.countWoven old.channel
      flags := if old.seq = p.seq then (strobed s p runs).evs.flags
        else (strobed s p runs).evs.flags ||| EventFlag.stepClosed.bit } ∧
    ∀ kept, s.ph.ring.length ≤ 96 → Kept s old kept → (s.pickLatch p runs).pq = { s.pq with
      steps := if old.seq = p.seq then kept else kept.map fun x => if x.seq = old.seq then { x with state := .closed } else x } := by
  obtain ⟨hph, hpq, -, -⟩ := strobed_frame s p runs
  obtain ⟨-, -, evs⟩ := strobed_blocks s p runs
  obtain ⟨-, wovenEvs, -, wovenPq, -⟩ := makeWoven_blocks (strobed s p runs) old
  have takenEvs : (shedTaken s p runs).evs = { (strobed s p runs).evs with weft := s.evs.weft.countWoven old.channel } := by
    simp [shedTaken, ho, State.weaveShed, wovenEvs, evs]
  have takenPq (kept) (hlen : s.ph.ring.length ≤ 96) (hk : Kept s old kept) : (shedTaken s p runs).pq = { s.pq with steps := kept } := by
    have joined : ((strobed s p runs).joinRing old).pq = { s.pq with steps := kept } := by
      rw [← hpq]
      refine joinRing_pq (by rwa [hph]) ?_
      simpa only [Kept, FreedBy, State.step?, hph, hpq] using hk
    simp [shedTaken, ho, State.weaveShed, wovenPq, joined]
  obtain ⟨stays, closes⟩ := closeStep_cases (s := shedTaken s p runs) (p := p) rfl rfl old.seq
  simp only [pickLatch_eq, State.occur_frame, ho, State.closeOld]
  by_cases same : old.seq = p.seq
  · simp only [stays same, if_pos same]
    exact ⟨takenEvs, takenPq⟩
  · obtain ⟨steps, flags⟩ := closes same
    simp only [if_neg same, flags, takenEvs]
    exact ⟨trivial, fun kept hlen hk => by rw [steps, takenPq kept hlen hk]⟩

/-- A latch counts the floats that end, and shows FLOAT_UNRESOLVED (R104). -/
theorem pickLatch_floats (s : State) (p : Pick) (runs : Runs) :
    (s.pickLatch p runs).evs.floats = (s.evs.floats.endFloats p.lift s.flm.runs).addCounts p ∧
    (0 < p.unresolved → (s.pickLatch p runs).flag .floatUnresolved = true) := by
  obtain ⟨-, -, evs⟩ := strobed_blocks s p runs
  have floats : (strobed s p runs).evs.floats = (s.evs.floats.endFloats p.lift s.flm.runs).addCounts p := congrArg Evs.floats evs
  have flagged (h : 0 < p.unresolved) : (strobed s p runs).evs.flags = s.evs.flags ||| EventFlag.floatUnresolved.bit := by
    rw [evs]
    exact if_pos h
  simp only [State.flag]
  cases ho : s.ph.shed with
  | none =>
    obtain ⟨-, same, -⟩ := pickLatch_of_no_shed (p := p) (runs := runs) ho
    rw [same]
    exact ⟨floats, fun h => by simp [flagged h, bit_getLsbD]⟩
  | some old =>
    obtain ⟨latched, -⟩ := pickLatch_of_shed (p := p) (runs := runs) ho
    rw [latched]
    refine ⟨floats, fun h => ?_⟩
    by_cases same : old.seq = p.seq <;> simp [same, flagged h, bit_getLsbD]

/-! ### The statement -/

/-- A latch reaches the blocks that O31 lists. -/
theorem pickLatch_eq_blocks (s : State) (p : Pick) (runs : Runs) :
    let t := s.pickLatch p runs
    t = { s with stu := t.stu, pq := t.pq, pcm := t.pcm, flm := t.flm, ph := t.ph, hcu := t.hcu, hft := t.hft, dlp := t.dlp
                 evs := t.evs } := by
  obtain ⟨ps, wct, wsu, llp, free, pending⟩ := State.pickLatch_frame (s := s) p runs
  intro t
  rw [← ps, ← wct, ← wsu, ← llp, ← free, ← pending]

/-- The release count moves on, and the shaft steps; all else stands (R4, R160). -/
theorem stepped_eq (s : State) : stepped s = { s with stu := s.stu.forward, wsu.release := (stepped s).wsu.release } := by
  unfold stepped State.countRelease
  split <;> rfl

/-- LATCH alone on its step, with a TRANSFERRED record. -/
theorem exec_latch {early : BitVec 4} (running : s.stu.weaving = .running)
    (fired : s.stu.firedAt (s.stu.position + 1).val = [.latch]) (still : ∀ c b, s.wsu.finger ≠ .waiting c b)
    (hst : s.pcm.staging = some ⟨p, .transferred runs⟩) : exec (.forwardStep early) s = .next ((stepped s).pickLatch p runs) := by
  have staging : (stepped s).pcm.staging = some ⟨p, .transferred runs⟩ := by rw [stepped_eq]; exact hst
  rw [exec_forwardStep_single running fired still]
  have delivered : (stepped s).deliver early .latch = (stepped s).latch early := rfl
  rw [delivered, State.latch, staging]

/-- A latch's chains: states stand, an ACTIVE chain shows what was shifted, any other its own image (R136). -/
theorem pickLatch_chain (s : State) (p : Pick) (runs : Runs) {i : Nat} (hi : i < 4) :
    (s.pickLatch p runs).chain i = (s.chain i).strobeTransfer := by
  obtain ⟨-, -, -, hcu, -⟩ := pickLatch_blocks s p runs
  rw [State.chain, hcu]
  exact tabGet_tabMap _ _ i hi _ _

/-- Settles O31: a latch is the strobe, the old shed woven, and its step closed; each clause is one of these, or has no part in it. -/
theorem pickLatch : Obligations.PickLatch := by
  intro s early p runs running fired still hst hlen
  rw [exec_latch running fired still hst, stepped_eq s]
  generalize (stepped s).wsu.release = count
  let d : State := { s with stu := s.stu.forward, wsu.release := count }
  obtain ⟨ph, pcm, flm, hcu, hft⟩ := pickLatch_blocks d p runs
  obtain ⟨phS, pqS, pcmS, hftS⟩ := strobed_frame d p runs
  obtain ⟨-, -, evsS⟩ := strobed_blocks d p runs
  obtain ⟨floats, unresolved⟩ := pickLatch_floats d p runs
  obtain ⟨-, -, wsu, -⟩ := State.pickLatch_frame (s := d) p runs
  have whole := pickLatch_eq_blocks d p runs
  have weaving := pickLatch_weaving d p runs
  refine ⟨d.pickLatch p runs, rfl, by rw [ph], by rw [pcm], flm, weaving.trans running, by rw [wsu],
    whole.trans (by rw [wsu]), by rw [hcu], unresolved, fun within => ?_, fun i hi => ?_, fun hn => ?_, fun old ho => ?_⟩
  · rw [floats]
    show (s.evs.floats.endFloats p.lift s.flm.runs).addCounts p = _
    rw [endFloats_eq_ended _ _ within]
    simp only [FloatStats.addCounts, FloatStats.ended]
  · rw [pickLatch_chain d p runs hi]
    have same : d.chain i = s.chain i := rfl
    rw [same]
    exact strobeTransfer_cases (s.chain i)
  · obtain ⟨woven, evs, pq⟩ := pickLatch_of_no_shed (s := d) (p := p) (runs := runs) hn
    rw [ph, pcm, hft, evs, pq, woven, phS, pcmS, hftS, evsS]
    exact ⟨rfl, rfl, rfl, rfl, rfl⟩
  · have woven : (strobed d p runs).weaveShed d.ph.shed = (strobed d p runs).makeWoven old := by
      rw [show d.ph.shed = some old from ho]; rfl
    obtain ⟨wovenPcm, wovenEvs, wovenPh, -, fresh, aged⟩ := makeWoven_blocks (strobed d p runs) old
    obtain ⟨room, full⟩ := joinRing_ph (strobed d p runs) old
    rw [phS] at room full
    rw [hftS] at fresh aged
    obtain ⟨evs, pq⟩ := pickLatch_of_shed (s := d) (p := p) (runs := runs) ho
    have unclosed : (strobed d p runs).evs.flags.getLsbD EventFlag.stepClosed.index = s.flag .stepClosed := by
      rw [evsS]
      show (if 0 < p.unresolved then _ else s.evs.flags).getLsbD _ = s.evs.flags.getLsbD _
      split <;> simp [bit_getLsbD, d]
    rw [ph, pcm, hft, woven, wovenPcm, wovenPh, State.flag, evs, pcmS]
    refine ⟨rfl, ?_, ?_, ?_, ?_, ?_, fresh, aged⟩
    · cases old.channel <;> rfl
    · intro c hc
      rw [hc]; rfl
    · intro h; rw [room h]; exact ⟨rfl, rfl⟩
    · intro h; rw [full h]; exact ⟨rfl, rfl⟩
    · intro kept hk
      rw [pq kept hlen hk]
      refine ⟨fun same => ⟨by rw [if_pos same], ?_⟩, fun other => ⟨?_, by rw [if_neg other]⟩⟩
      · simp only [if_pos same, unclosed]
      · simp [if_neg other, bit_getLsbD]

end Sys2Proof.Machine.Program
end

section
/-! PICK_BACK taken (R119 to R121): the run counters counted back, the queue, and the re-presentation. -/

namespace Sys2Proof.Machine.Program

open Sys2Proof Sys2Proof.Machine

/-! ### The run counters counted back (R107) -/

/-- Counting back is the run of records with λ = 1, at most the cap, or the cap where it reaches an old end without the origin (R107). -/
theorem countBack_eq (cap : Nat) (origin : Bool) (h : Nat) (records : List Pick) :
    countBack cap origin h records =
      let counted := (records.takeWhile fun p => p.lift.getLsbD h).length
      if counted = records.length ∧ origin = false then cap else min cap counted := by
  induction records with
  | nil => cases origin <;> simp [countBack]
  | cons p rest ih =>
    rw [countBack, ih]
    cases hl : p.lift.getLsbD h with
    | false => simp [hl]
    | true =>
      simp only [hl, if_true, List.takeWhile_cons, List.length_cons, Nat.add_right_cancel_iff]
      split <;> omega

/-- The counter of a hook in a list made hook by hook. -/
theorem runOf_map (f : Nat → Nat) (hooks : List Nat) (h : Nat) :
    runOf (hooks.map fun k => (k, f k)) h = if h ∈ hooks then f h else 0 := by
  induction hooks with
  | nil => rfl
  | cons k rest ih =>
    rw [List.map_cons, runOf, ih]
    by_cases hk : k = h
    · simp [hk]
    · simp [hk, Ne.symm hk]

/-- The counters rebuilt from a shed and a ring are those R107's table gives. -/
theorem runOf_rebuiltRuns {ph : Ph} {p : Pick} {older : List Pick} (lwarp : Nat) (hp : ph.shed = some p) (hr : ph.ring = older) {h : Nat}
    (hh : h < 12288) : runOf (rebuiltRuns ph lwarp) h = rebuiltRun (p :: older.reverse) ph.origin lwarp h := by
  have listed : h ∈ raisedHooks p.lift ↔ p.lift.getLsbD h = true := by simp [raisedHooks, Config.hookCount, hh]
  rw [rebuiltRuns, hp, hr]
  simp only
  rw [runOf_map, rebuiltRun, ← runCap, countBack_eq]
  by_cases raised : p.lift.getLsbD h = true
  · exact if_pos (listed.2 raised)
  · rw [if_neg (mt listed.1 raised)]
    simp [raised]

/-! ### The records and the queue (R120) -/

/-- A record of the queue once the shed is back at a pick: that pick's step reopens, and the old shed's returns to PENDING (R40, R120). -/
def steppedBack (s : State) (p : Pick) (r : StepRec) : StepRec :=
  if r.seq = p.seq then (if r.state = .closed then { r with state := .opened } else r)
  else if (s.ph.shed.any fun q => q.seq = r.seq) ∧ r.state = .opened then { r with state := .waiting, rowBase := none }
  else r

/-- The state once a pick back is taken, before the re-presentation (R120). -/
def backAt (s : State) (older : List Pick) (p : Pick) : State :=
  { s with
    ph := { s.ph with shed := some p, ring := older }
    pq := { s.pq with steps := s.pq.steps.map (steppedBack s p) }
    flm := { s.flm with runs := rebuiltRuns { s.ph with shed := some p, ring := older } s.flm.lwarp }
    pcm := { s.pcm with programEnd := false, marked := false } }

/-- The old shed's step, when there is one, returns to PENDING once the shed stands at another pick's step (R40). -/
def oldReturned (s : State) (old : Option Pick) : State := old.elim s fun q => s.returnStep q.seq

/-- The queue once the old shed's step is returned, record by record. -/
theorem oldReturned_eq {s : State} {p : Pick} (hp : s.ph.shed = some p) (hst : s.pcm.staging = none) (old : Option Pick) :
    oldReturned s old = { s with pq.steps := s.pq.steps.map fun r =>
      if r.seq ≠ p.seq ∧ (old.any fun q => q.seq = r.seq) ∧ r.state = .opened then { r with state := .waiting, rowBase := none } else r } := by
  cases old with
  | none => simp [oldReturned]
  | some q =>
    have returned : oldReturned s (some q) = if p.seq = q.seq then s else
        s.updateStep q.seq fun r => if r.state = .opened then { r with state := .waiting, rowBase := none } else r := by
      simp [oldReturned, State.returnStep, State.holdsStep, hp, hst]
    rw [returned]
    by_cases same : p.seq = q.seq
    · have each (r : StepRec) : (if r.seq ≠ p.seq ∧ (some q).any (fun q => q.seq = r.seq) = true ∧ r.state = .opened
          then { r with state := .waiting, rowBase := none } else r) = r := by
        grind
      simp only [if_pos same, each, List.map_id']
    · rw [if_neg same]
      have each (r : StepRec) : (if r.seq = q.seq then if r.state = .opened then { r with state := .waiting, rowBase := none } else r else r) =
          if r.seq ≠ p.seq ∧ (some q).any (fun q => q.seq = r.seq) = true ∧ r.state = .opened
            then { r with state := .waiting, rowBase := none } else r := by
        grind
      simp only [State.updateStep, each]

/-- The new shed stands, and its step has reopened (R120). -/
def reopened (s : State) (p : Pick) : State := State.reopenStep { s with ph.shed := some p, ph.ring := s.ph.ring.dropLast } p.seq

/-- An accepted pick back, with staging EMPTY (R120). -/
theorem stepBack_of_empty {s : State} {p : Pick} (hst : s.pcm.staging = none) :
    s.stepBack p =
      { State.rebuildRuns (oldReturned (reopened s p) s.ph.shed) with pcm.programEnd := false, pcm.marked := false } := by
  unfold State.stepBack
  have early (d : State) (h : d.pcm.staging = none) : d.invalidate = d := d.invalidate_of_early (by simp [h])
  cases s.ph.shed with
  | none => exact early _ hst
  | some q => exact early _ (by simpa [oldReturned] using hst)

/-- The records, the queue, the run counters and the indication of a pick back (R120). -/
theorem stepBack_eq {s : State} {older : List Pick} {p : Pick} (hst : s.pcm.staging = none) (hr : s.ph.ring = older ++ [p]) :
    s.stepBack p = backAt s older p := by
  have ring : s.ph.ring.dropLast = older := by simp [hr]
  rw [stepBack_of_empty hst, oldReturned_eq (s := reopened s p) (p := p) rfl hst]
  simp only [reopened, ring, State.reopenStep, State.updateStep, State.rebuildRuns, List.map_map, backAt]
  congr 2
  refine List.map_congr_left fun r _ => ?_
  simp only [Function.comp, steppedBack]
  grind

/-! ### The re-presentation (R121) -/

/-- Some chain shifts for a work when one of the four does. -/
theorem shifting_iff (s : State) (work : ShiftWork) :
    s.shifting work = true ↔ ∃ i, i < 4 ∧ ∃ x, (s.chain i).shift = some x ∧ x.work = work ∧ x.done = false := by
  simp only [State.shifting, List.any_eq_true, Option.any_eq_true, decide_eq_true_eq]
  constructor
  · rintro ⟨c, hc, x, hx, shifts⟩
    obtain ⟨i, hi, rfl⟩ := Vector.mem_iff_getElem.1 (Vector.mem_toList_iff.1 hc)
    exact ⟨i, hi, x, by simpa [State.chain, tabGet, hi] using hx, shifts⟩
  · rintro ⟨i, hi, x, hx, shifts⟩
    exact ⟨s.chain i, tabGet_mem _ _ _ hi, x, hx, shifts⟩

/-- What a chain holds once every ACTIVE chain has begun to shift (R132, R121). -/
theorem shiftAll_chain (s : State) (work : ShiftWork) (lift : Lift) {i : Nat} (hi : i < 4) :
    (s.shiftAll work lift).chain i =
      if (s.chain i).state = .active then (s.chain i).begin work (s.driveShare none lift i) else s.chain i :=
  tabGet_tabMap _ _ i hi _ _

/-- With a chain ACTIVE the re-presentation goes on. -/
theorem beginRepresentation_active {s : State} {p : Pick} (h : ∃ i, i < 4 ∧ (s.chain i).state = .active) :
    s.beginRepresentation p = { s.shiftAll .representation p.lift with ph.representing := some { g := p.g, faulty := 0 } } := by
  obtain ⟨i, hi, active⟩ := h
  have shifts : (s.shiftAll .representation p.lift).shifting .representation = true :=
    (shifting_iff _ _).2 ⟨i, hi, { work := .representation, drive := s.driveShare none p.lift i, done := false },
      by rw [shiftAll_chain s _ _ hi, if_pos active]; rfl, rfl, rfl⟩
  exact if_pos shifts

/-- With no chain ACTIVE it ends at once with BACK_DONE. -/
theorem beginRepresentation_idle {s : State} {p : Pick} (h : ∀ i, i < 4 → (s.chain i).state ≠ .active)
    (hs : s.shifting .representation = false) (room : s.llp.queue.length < 16) :
    ∃ hcu, s.beginRepresentation p =
      { s with hcu := hcu, ph.representing := none, llp.queue := s.llp.queue ++ [.backDone p.g] } := by
  have ends : (s.shiftAll .representation p.lift).shifting .representation = false := by
    rw [Bool.eq_false_iff, Ne, shifting_iff] at hs ⊢
    rintro ⟨i, hi, x, hx, shifts⟩
    rw [shiftAll_chain s _ _ hi, if_neg (h i hi)] at hx
    exact hs ⟨i, hi, x, hx, shifts⟩
  let d : State := { s.shiftAll .representation p.lift with ph.representing := some { g := p.g, faulty := 0 } }
  let e : State := { d with hcu.chains := tabMap (fun _ (c : Chain) => c.strobeRepresentation) d.hcu.chains }
  have strobes : s.beginRepresentation p = { e.send (.backDone p.g) with ph.representing := none } := by
    have ends : ¬ d.shifting .representation = true := Bool.eq_false_iff.1 ends
    exact if_neg ends
  exact ⟨_, strobes.trans (by rw [send_room (s := e) _ room]; rfl)⟩

/-- Settles O21: the records and the queue step back, and the re-presentation begins there. -/
theorem pickBackTaken : Obligations.PickBackTaken := by
  intro s older p finding idle hst hr reach quiet room
  have last : s.ph.ring.getLast? = some p := by simp [hr]
  have accepted : s.messageTaken.pickBackRefusal = none := by
    have nonempty : s.ph.ring ≠ [] := by simp [hr]
    simp [State.pickBackRefusal, finding, idle, nonempty, reach]
  have taken : s.messageTaken.takePickBack = (backAt s.messageTaken older p).beginRepresentation p := by
    rw [← stepBack_eq (s := s.messageTaken) hst hr]
    unfold State.takePickBack
    rw [accepted, show s.messageTaken.ph.ring.getLast? = some p from last]
  let d := backAt s.messageTaken older p
  have runs (h : Nat) (hh : h < 12288) : runOf d.flm.runs h = rebuiltRun (p :: older.reverse) s.ph.origin s.flm.lwarp h := by
    have rebuilt : d.flm.runs = rebuiltRuns { s.ph with shed := some p, ring := older } s.flm.lwarp := by
      simp only [d, backAt, State.messageTaken]
    rw [rebuilt]
    exact runOf_rebuiltRuns (ph := { s.ph with shed := some p, ring := older }) s.flm.lwarp rfl rfl hh
  by_cases active : ∃ i, i < 4 ∧ (s.chain i).state = .active
  · refine ⟨_, congrArg Host.Outcome.next (taken.trans (beginRepresentation_active (s := d) active)), rfl, rfl, rfl, rfl, rfl, runs, rfl,
      rfl, fun _ => ⟨rfl, rfl, fun i hi => ?_⟩, fun none => absurd active (by simpa using none)⟩
    have begun : (d.shiftAll .representation p.lift).chain i = if (s.chain i).state = .active
        then (s.chain i).begin .representation (s.driveShare none p.lift i) else s.chain i :=
      shiftAll_chain d .representation p.lift hi
    show ((d.shiftAll .representation p.lift).chain i).image = _ ∧
      (_ → ((d.shiftAll .representation p.lift).chain i).shift = _)
    rw [begun]
    split
    · next on => exact ⟨rfl, fun _ => rfl⟩
    · next off => exact ⟨rfl, fun on => absurd on off⟩
  · have none : ∀ i, i < 4 → (s.chain i).state ≠ .active := by simpa using active
    obtain ⟨hcu, begun⟩ := beginRepresentation_idle (s := d) (p := p) none quiet room
    exact ⟨_, congrArg Host.Outcome.next (taken.trans begun), rfl, rfl, rfl, rfl, rfl, runs, rfl, rfl, fun h => absurd h active,
      fun _ => ⟨rfl, rfl⟩⟩

end Sys2Proof.Machine.Program
end

section
/-! The staging record discarded (R79, R94, R95): what is left of the queue and of the chains. -/

namespace Sys2Proof.Machine.Program

open Sys2Proof Sys2Proof.Machine

variable {s : State} {st : Staging} {p : Pick} {x : StepRec}

/-- A record of the queue once the staging record has left it: its step, when OPEN and not the shed's, is PENDING again (R40). -/
def leftStep (shed : Option Pick) (seq : BitVec 16) (x : StepRec) : StepRec :=
  if x.seq = seq ∧ x.state = .opened ∧ (shed.all fun p => p.seq ≠ seq) then { x with state := .waiting, rowBase := none } else x

/-- A staging record discarded, written out. -/
theorem discarded_of_staging (hst : s.pcm.staging = some st) :
    s.discarded = { s with
      pcm.staging := none
      hcu.chains := s.hcu.chains.map Chain.dropTransfer
      pq.steps := s.pq.steps.map (leftStep s.ph.shed st.pick.seq) } := by
  unfold State.discarded
  rw [hst]
  rfl

/-- A step keeps its seq as the record leaves it. -/
theorem leftStep_seq (shed : Option Pick) (seq : BitVec 16) (x : StepRec) : (leftStep shed seq x).seq = x.seq := by
  unfold leftStep
  split <;> rfl

/-- A step found in the queue is found after the discard, as the discard leaves it. -/
theorem discarded_step? (hst : s.pcm.staging = some st) (seq : BitVec 16) :
    s.discarded.step? seq = (s.step? seq).map (leftStep s.ph.shed st.pick.seq) := by
  rw [discarded_of_staging hst, State.step?, State.step?, List.find?_map]
  simp only [Function.comp_def, leftStep_seq]

/-- The shed's step stands through the discard (R40). -/
theorem discarded_step?_shed (hst : s.pcm.staging = some st) (hp : s.ph.shed = some p) (hx : s.step? p.seq = some x) :
    s.discarded.step? p.seq = some x := by
  have stands : leftStep s.ph.shed st.pick.seq x = x :=
    if_neg fun ⟨hseq, _, other⟩ => by simp [hp, ← hseq, step?_seq hx] at other
  rw [discarded_step? hst, hx, Option.map_some, stands]

/-- A step left OPEN by the discard is the shed's, when it is that of the record discarded (R40). -/
theorem leftStep_opened {shed : Option Pick} {seq : BitVec 16} (hs : x.seq = seq) (ho : (leftStep shed seq x).state = .opened) :
    ∃ p, shed = some p ∧ p.seq = seq := by
  by_cases h : shed.all fun p => p.seq ≠ seq
  · unfold leftStep at ho
    split at ho
    · cases ho
    · next hn => exact absurd ⟨hs, ho, h⟩ hn
  · cases shed with
    | none => simp at h
    | some p => simpa using h

/-- What the discard leaves of a chain. -/
theorem discarded_chain (hst : s.pcm.staging = some st) {i : Nat} (hi : i < 4) : s.discarded.chain i = (s.chain i).dropTransfer := by
  rw [discarded_of_staging hst]
  simp [State.chain, tabGet, hi]

/-- A chain keeps its state and its image as it drops a transfer, and shifts none then (R79). -/
theorem dropTransfer_cases (c : Chain) :
    c.dropTransfer.state = c.state ∧ c.dropTransfer.image = c.image ∧ ∀ y, c.dropTransfer.shift = some y → y.work ≠ .transfer := by
  unfold Chain.dropTransfer
  split
  · exact ⟨rfl, rfl, by simp⟩
  · next h => exact ⟨rfl, rfl, fun y hy => by simpa [hy] using h⟩

/-- After a discard no chain shifts a transfer (R79). -/
theorem discarded_quiet (hst : s.pcm.staging = some st) : s.discarded.shifting .transfer = false := by
  rw [Bool.eq_false_iff, Ne, shifting_iff]
  rintro ⟨i, hi, y, hy, work, -⟩
  rw [discarded_chain hst hi] at hy
  obtain ⟨-, -, dropped⟩ := dropTransfer_cases (s.chain i)
  exact dropped y hy work

/-- With the shed within its step, a composition is of the next pick of that step, with no channel unless the finger serves it (R33, R80). -/
theorem beginComposition_next (hp : s.ph.shed = some p) (hx : s.step? p.seq = some x) (within : p.t + 1 < x.picks) :
    ∃ y, s.beginComposition.pcm =
        { s.pcm with staging := some ⟨y, .composing { slots := none, rows := [] }⟩, programEnd := false, marked := false } ∧
      (y.g, y.seq, y.t) = (p.g + 1, p.seq, p.t + 1) ∧ (s.wsu.servedG ≠ some (p.g + 1) → y.channel = none) := by
  have hn : s.nextAnswer = .pick p.seq (p.t + 1) false := by
    rw [nextAnswer_of_shed hp hx, (successorIn_cases s.pq.steps x p.t).1 within, step?_seq hx]
  obtain ⟨e, q, moved, -, hq, begins⟩ := begins_of_pick hn hx
  obtain ⟨hg, hseq, ht, hc⟩ : q.g = s.nextG ∧ q.seq = p.seq ∧ q.t = p.t + 1 ∧ q.channel = none := by simpa using hq
  have numbered : q.g = p.g + 1 := by rw [hg, nextG_eq, hp]
  obtain ⟨c, record⟩ := checked_record e q
  rw [begins]
  refine ⟨{ q with channel := c }, ?_, by simp [numbered, hseq, ht], fun unserved => ?_⟩
  · rw [checked_frame (p := q) moved, ← record]
  · obtain ⟨-, -, -, channel⟩ := checked_unserved moved hc (.inl (by rwa [numbered]))
    simpa [record] using channel

end Sys2Proof.Machine.Program
end

section
/-! What the commands of the staging invalidation list leave of the staging record (R93 to R96). -/

namespace Sys2Proof.Machine.Program

open Sys2Proof Sys2Proof.Machine

variable {s u v : State} {st : Staging}

/-- What O54 claims of a command of the list that left `v`; `stops` marks the commands taken in STOPPED alone. -/
def Edited (s v : State) (st : Staging) (stops : Prop) : Prop :=
  v.stu.weaving = s.stu.weaving ∧ ((∀ p, s.ph.shed = some p → p.channel ≠ none) → v.ph = s.ph) ∧
  (∀ r, st.phase = .composing r →
    (stops → v.pcm.staging = none) ∧ (¬ stops → ∃ reads, v.pcm.staging = some ⟨st.pick, .composing reads⟩)) ∧
  ((∀ r, st.phase ≠ .composing r) →
    v.shifting .transfer = false ∧
    (s.stu.weaving ≠ .running → v.pcm.staging = none ∧ v.pcm.nextPick = s.pcm.nextPick ∧ v.pcm.programEnd = s.pcm.programEnd ∧
      ∀ x, v.step? st.pick.seq = some x → x.state = .opened → ∃ p, s.ph.shed = some p ∧ p.seq = st.pick.seq) ∧
    (s.stu.weaving = .running → QueueSound s → ∀ p x, s.ph.shed = some p → s.step? p.seq = some x → p.t + 1 < x.picks →
      ∃ y, v.pcm = { s.pcm with staging := some ⟨y, .composing { slots := none, rows := [] }⟩, programEnd := false, marked := false } ∧
        (y.g, y.seq, y.t) = (p.g + 1, p.seq, p.t + 1) ∧ (s.wsu.servedG ≠ some (p.g + 1) → y.channel = none)))

/-! ### Commands taken in every weaving state -/

/-- A command's own effect before the staging record meets the list: it leaves a later record, the reads of a composition apart, and the
shed's step. -/
structure Edits (s u : State) (st : Staging) : Prop where
  weaving : u.stu.weaving = s.stu.weaving
  wsu : u.wsu = s.wsu
  ph : u.ph = s.ph
  composing : ∀ r, st.phase = .composing r → ∃ reads, u.pcm.staging = some ⟨st.pick, .composing reads⟩
  late : (∀ r, st.phase ≠ .composing r) → u.pcm = s.pcm
  shed : QueueSound s → ∀ p x, s.ph.shed = some p → s.step? p.seq = some x → u.step? p.seq = some x

/-- Such a command, its record then met by the list (R93, R94, R96). -/
theorem Edits.edited (h : Edits s u st) (hst : s.pcm.staging = some st) : Edited s u.invalidate st False := by
  obtain ⟨weaving, wsu, ph, composing, late, shed⟩ := h
  obtain ⟨-, -, weavingKept, phKept⟩ := invalidate_stands u
  refine ⟨weavingKept.trans weaving, fun served => (phKept (by rwa [ph])).trans ph, fun r hr => ⟨False.elim, fun _ => ?_⟩,
    fun hl => ?_⟩
  · obtain ⟨reads, hu⟩ := composing r hr
    exact ⟨reads, by rw [u.invalidate_of_early (by simp [hu])]; exact hu⟩
  have pcm : u.pcm = s.pcm := late hl
  have hu : u.pcm.staging = some st := by rw [pcm, hst]
  by_cases running : s.stu.weaving = .running
  · rw [invalidate_running hu hl (weaving.trans running)]
    refine ⟨?_, fun h => absurd running h, fun _ sound p x hp hx within => ?_⟩
    · have hcu : u.discarded.beginComposition.hcu = u.discarded.hcu := by simp
      rw [State.shifting, hcu]
      exact discarded_quiet hu
    · have hp' : u.ph.shed = some p := by rw [ph, hp]
      have found := discarded_step?_shed hu hp' (shed sound p x hp hx)
      obtain ⟨y, record, numbered, channel⟩ := beginComposition_next (s := u.discarded) (by simpa using hp') found within
      refine ⟨y, ?_, numbered, fun unserved => channel (by simpa [wsu] using unserved)⟩
      rw [record, discarded_of_staging hu, pcm]
  · rw [u.invalidate_of_late st hu hl (by rwa [weaving])]
    refine ⟨discarded_quiet hu, fun _ => ?_, fun h => absurd h running⟩
    have left := discarded_step? hu st.pick.seq
    rw [ph] at left
    refine ⟨by rw [discarded_of_staging hu], by rw [discarded_of_staging hu, pcm], by rw [discarded_of_staging hu, pcm], fun x hx ho => ?_⟩
    rw [left, Option.map_eq_some_iff] at hx
    obtain ⟨y, hy, rfl⟩ := hx
    exact leftStep_opened (step?_seq hy) ho

/-! ### Commands taken in STOPPED alone -/

/-- The staging record of `s` is gone, and its step has been handled (R40, R95). -/
def RecordGone (s v : State) : Prop :=
  v.stu.weaving = s.stu.weaving ∧ v.ph = s.ph ∧ v.pq = s.discarded.pq ∧ v.shifting .transfer = false ∧
  v.pcm.staging = none ∧ v.pcm.nextPick = s.pcm.nextPick ∧ v.pcm.programEnd = s.pcm.programEnd

/-- The own effect of a command taken in STOPPED: it leaves the staging record and shifts no transfer. -/
def StoppedEdit (s v : State) : Prop :=
  v.stu = s.stu ∧ v.ph = s.ph ∧ v.pq = s.pq ∧ v.pcm.staging = s.pcm.staging ∧ v.pcm.nextPick = s.pcm.nextPick ∧
  v.pcm.programEnd = s.pcm.programEnd ∧ (s.shifting .transfer = false → v.shifting .transfer = false)

/-- An edit that leaves the record leaves it gone. -/
theorem RecordGone.edit (h : RecordGone s u) (he : StoppedEdit u v) : RecordGone s v := by
  obtain ⟨weaving, ph, pq, quiet, staging, nextPick, programEnd⟩ := h
  obtain ⟨stu', ph', pq', staging', nextPick', programEnd', quiet'⟩ := he
  exact ⟨by rw [stu', weaving], ph'.trans ph, pq'.trans pq, quiet' quiet, staging'.trans staging, nextPick'.trans nextPick,
    programEnd'.trans programEnd⟩

/-- A record discarded after an edit of a command taken in STOPPED is gone. -/
theorem recordGone_discarded (hst : s.pcm.staging = some st) (he : StoppedEdit s u) : RecordGone s u.discarded := by
  obtain ⟨stu, ph, pq, staging, nextPick, programEnd, -⟩ := he
  have hu : u.pcm.staging = some st := staging.trans hst
  refine ⟨by simp [stu], by simp [ph], ?_, discarded_quiet hu, ?_, ?_, ?_⟩
  · rw [discarded_of_staging hu, discarded_of_staging hst, pq, ph]
  · rw [discarded_of_staging hu]
  · rw [discarded_of_staging hu]; exact nextPick
  · rw [discarded_of_staging hu]; exact programEnd

/-- The list leaves no record where there is none (R93). -/
theorem RecordGone.invalidate (h : RecordGone s v) : RecordGone s v.invalidate := by
  obtain ⟨-, -, -, -, staging, -, -⟩ := id h
  rwa [v.invalidate_of_early (by simp [staging])]

/-- Work in flight is abandoned, the command has its effect, and a record that waits meets the list: none is left (R93, R95). -/
theorem recordGone_abandoned {f : State → State} (hf : ∀ u, StoppedEdit u (f u)) (hst : s.pcm.staging = some st)
    (stopped : s.stu.weaving = .stopped) : RecordGone s (f s.abandonWork).invalidate := by
  have atOnce : StoppedEdit s s := ⟨rfl, rfl, rfl, rfl, rfl, rfl, id⟩
  have abandoned (h : s.abandonWork = s.discarded) : RecordGone s (f s.abandonWork).invalidate := by
    rw [h]
    exact ((recordGone_discarded hst atOnce).edit (hf _)).invalidate
  have waits (h : s.abandonWork = s) (late : ∀ r, st.phase ≠ .composing r) : RecordGone s (f s.abandonWork).invalidate := by
    have edit := hf s
    obtain ⟨stu, -, -, staging, -⟩ := id edit
    rw [h, (f s).invalidate_of_late st (staging.trans hst) late (by rw [stu, stopped]; decide)]
    exact recordGone_discarded hst edit
  obtain ⟨p, phase⟩ := st
  cases phase with
  | composing r => exact abandoned (by simp [State.abandonWork, hst, State.discardStaging_eq_discarded])
  | transferring r => exact abandoned (by simp [State.abandonWork, hst, State.discardStaging_eq_discarded])
  | composed r => exact waits (by simp [State.abandonWork, hst]) nofun
  | transferred r => exact waits (by simp [State.abandonWork, hst]) nofun

/-- A record gone is what the list asks of a command taken in STOPPED (R95). -/
theorem RecordGone.edited (h : RecordGone s v) (hst : s.pcm.staging = some st) (stopped : s.stu.weaving = .stopped) :
    Edited s v st True := by
  obtain ⟨weaving, ph, pq, quiet, staging, nextPick, programEnd⟩ := h
  refine ⟨weaving, fun _ => ph, fun _ _ => ⟨fun _ => staging, fun h => absurd trivial h⟩, fun _ => ⟨quiet, fun _ => ?_, fun running => ?_⟩⟩
  · refine ⟨staging, nextPick, programEnd, fun x hx ho => ?_⟩
    have left : v.step? st.pick.seq = s.discarded.step? st.pick.seq := by rw [State.step?, pq, State.step?]
    rw [left, discarded_step? hst, Option.map_eq_some_iff] at hx
    obtain ⟨y, hy, rfl⟩ := hx
    exact leftStep_opened (step?_seq hy) ho
  · rw [stopped] at running
    cases running

end Sys2Proof.Machine.Program
end

section
/-! The commands of the staging invalidation list, one by one (R93). -/

namespace Sys2Proof.Machine.Program

open Sys2Proof Sys2Proof.Machine

variable {s : State} {st : Staging}

/-- What a command taken by its owner claims: it is refused, or it does to the staging record what O54 says. -/
def Owned (taken : Taken) (s : State) (st : Staging) (stops : Prop) : Prop :=
  (∃ why, taken = .refuse why s) ∨ Edited s taken.state st stops

/-- A command refused leaves the staging record. -/
theorem owned_refuse (why : Detail) {stops : Prop} : Owned (.refuse why s) s st stops := .inl ⟨why, rfl⟩

/-- A test of a command: one that fails is a refusal. -/
theorem owned_test {test : Prop} [Decidable test] {why : Detail} {taken : Taken} {stops : Prop} (h : ¬ test → Owned taken s st stops) :
    Owned (if test then .refuse why s else taken) s st stops := by
  split
  · exact owned_refuse why
  · next passed => exact h passed

/-- An accepted command does what its owner does: the design link port alone is answered. -/
theorem edited_of_exec {c : Instr} {owner : State → Taken} {t : State} {stops : Prop} (ho : ownerOf c = some owner)
    (hb : s.dlp.work = none) (owned : Owned (owner (s.frameIn (frameOf c))) (s.frameIn (frameOf c)) st stops) (h : exec c s = .next t)
    (accepted : t.dlp.work = some .probe ∨ ∃ r, t.dlp.response = some r ∧ r.outcome = .accept) : Edited s t st stops := by
  rw [exec_command ho, takeCommand_free c owner ((busy_eq_false s).2 hb), Host.Outcome.next.injEq] at h
  subst h
  rcases owned with ⟨why, refused⟩ | edited
  · rw [refused] at accepted
    simp [Taken.refuse, State.answer, State.frameIn, hb] at accepted
  · cases hr : (owner (s.frameIn (frameOf c))).reply with
    | none => exact edited
    | some r => exact edited

/-- A command without an effect of its own. -/
theorem edits_refl (hst : s.pcm.staging = some st) : Edits s s st where
  weaving := rfl
  wsu := rfl
  ph := rfl
  composing r hr := ⟨r, by rw [hst, ← hr]⟩
  late _ := rfl
  shed _ _ _ _ hx := hx

/-- Reads settled before a write are the composition's own (R60, R70). -/
theorem edits_settled {id : Nat} (hst : s.pcm.staging = some st) (hid : s.pickDesign st.pick = some id) :
    Edits s (s.settleReads id) st where
  weaving := by simp
  wsu := by simp
  ph := by simp
  composing r hr := by
    have hst' : s.pcm.staging = some ⟨st.pick, .composing r⟩ := by rw [hst, ← hr]
    exact ⟨_, by rw [settleReads_composing hst' hid]⟩
  late h := by
    rw [settleReads_none fun p r hst' => absurd (by cases hst.symm.trans hst'; rfl) (h r)]
  shed _ p x _ hx := by rwa [State.step?, show (s.settleReads id).pq = s.pq by simp]

/-- A write to the pattern store meets the list. -/
theorem edited_ps {u : State} (h : Edits s u st) (hst : s.pcm.staging = some st) (x : Ps) :
    Edited s (State.invalidate { u with ps := x }) st False :=
  Edits.edited (u := { u with ps := x }) ⟨h.weaving, h.wsu, h.ph, h.composing, h.late, h.shed⟩ hst

/-- A write to the weaves or the colour maps meets the list. -/
theorem edited_wct {u : State} (h : Edits s u st) (hst : s.pcm.staging = some st) (x : Wct) :
    Edited s (State.invalidate { u with wct := x }) st False :=
  Edits.edited (u := { u with wct := x }) ⟨h.weaving, h.wsu, h.ph, h.composing, h.late, h.shed⟩ hst

/-- An edit of the hook fault table meets the list. -/
theorem edited_hft {u : State} (h : Edits s u st) (hst : s.pcm.staging = some st) (x : Hft) :
    Edited s (State.invalidate { u with hft := x }) st False :=
  Edits.edited (u := { u with hft := x }) ⟨h.weaving, h.wsu, h.ph, h.composing, h.late, h.shed⟩ hst

/-! ### Commands taken in every weaving state -/

/-- The shed's step is not among the PENDING record that is cut and those that follow it (R29, R41). -/
theorem step?_of_cut {seq : BitVec 16} {r : StepRec} {p : Pick} {x : StepRec} (sound : QueueSound s) (hr : s.step? seq = some r)
    (hw : r.state = .waiting) (hp : s.ph.shed = some p) (hx : s.step? p.seq = some x) :
    State.step? { s with pq.steps := cutFrom s.pq.steps seq } p.seq = some x := by
  obtain ⟨-, -, ordered, -, held, -, -, -⟩ := sound
  obtain ⟨-, before, after, hq, hbefore⟩ := List.find?_eq_some_iff_append.1 hx
  have hb : ∀ y ∈ before, y.seq ≠ x.seq := by simpa [step?_seq hx] using hbefore
  have opened : x.state = .opened :=
    (held x (List.mem_of_find?_eq_some hx)).2 (by simp [State.holdsStep, hp, step?_seq hx])
  have early : ∀ y ∈ before ++ [x], y.state.rank ≤ 1 := by
    rw [hq, List.pairwise_append] at ordered
    obtain ⟨-, -, ordered⟩ := ordered
    intro y hy
    rcases List.mem_append.1 hy with hy | hy
    · simpa [opened, StepState.rank] using ordered y hy x (List.mem_cons_self ..)
    · simp [List.mem_singleton.1 hy, opened, StepState.rank]
  have uncut : ∀ y ∈ before ++ [x], y.seq ≠ seq := by
    intro y hy hseq
    have found : ((before ++ [x]).find? fun z => z.seq = seq).isSome := List.find?_isSome.2 ⟨y, hy, decide_eq_true hseq⟩
    obtain ⟨z, hz⟩ := Option.isSome_iff_exists.1 found
    rw [State.step?, hq, List.append_cons, List.find?_append, hz] at hr
    cases hr
    have rank := early _ (List.mem_of_find?_eq_some hz)
    rw [hw] at rank
    exact absurd rank (by decide)
  have left : cutFrom s.pq.steps seq = before ++ x :: cutFrom after seq := by
    rw [cutFrom, cutFrom, hq, List.append_cons, List.takeWhile_append_of_pos (by simpa using uncut)]
    simp
  rw [← step?_seq hx, State.step?, left]
  exact find_split hb

/-- STEP_CUT (R29). -/
theorem owned_stepCut (seq : BitVec 16) (hst : s.pcm.staging = some st) : Owned (takeStepCut seq s) s st False := by
  unfold takeStepCut
  split
  · exact owned_refuse _
  · next r hr =>
    refine owned_test fun hw => .inr (Edits.edited (u := { s with pq.steps := cutFrom s.pq.steps seq }) ?_ hst)
    obtain ⟨weaving, wsu, ph, composing, late, -⟩ := edits_refl hst
    exact ⟨weaving, wsu, ph, composing, late, fun sound p x hp hx => step?_of_cut sound hr (not_not.1 hw) hp hx⟩

/-- WEAVE_WRITE (R64). -/
theorem owned_weaveWrite (id ww wh : Byte) (rows : List (BitVec 32)) (hst : s.pcm.staging = some st) :
    Owned (takeWeaveWrite id ww wh rows s) s st False :=
  owned_test fun _ => owned_test fun _ => .inr (edited_wct (edits_refl hst) hst _)

/-- FAULT_PUT (R150). -/
theorem owned_faultPut (hook : BitVec 16) (action : Byte) (spare : BitVec 16) (hst : s.pcm.staging = some st) :
    Owned (takeFaultPut hook action spare s) s st False := by
  unfold takeFaultPut
  split
  · exact owned_refuse _
  · exact owned_test fun _ => owned_test fun _ => owned_test fun _ => .inr (edited_hft (edits_refl hst) hst _)

/-- FAULT_REMOVE (R151). -/
theorem owned_faultRemove (hook : BitVec 16) (hst : s.pcm.staging = some st) : Owned (takeFaultRemove hook s) s st False := by
  refine owned_test fun _ => ?_
  split
  · exact owned_refuse _
  · exact .inr (edited_hft (edits_refl hst) hst _)

/-- CELLS and CELLS_MORE on the design of the staging step (R58). -/
theorem owned_cells {fromStart : Bool} {count : BitVec 16} {packed : List Byte} {w : Window} (hst : s.pcm.staging = some st)
    (hw : s.ps.window = some w) (hid : s.pickDesign st.pick = some w.design) : Owned (takeCells fromStart count packed s) s st False := by
  have staging : s.stagingDesign w.design = true := by rw [stagingDesign_of_staging hst, hid, decide_eq_true rfl]
  unfold takeCells
  rw [hw]
  simp only [State.invalidateFor, staging, if_true]
  refine owned_test fun _ => owned_test fun _ => owned_test fun _ => ?_
  split
  · exact owned_refuse _
  · exact .inr (edited_ps (edits_settled hst hid) hst _)

/-- COLORMAP_WRITE on the design of the staging step (R71). -/
theorem owned_colormapWrite {design colour : Byte} {slots : Vector RawSlot 4} (hst : s.pcm.staging = some st)
    (hid : s.pickDesign st.pick = some design.toNat) : Owned (takeColormapWrite design colour slots s) s st False := by
  have staging : s.stagingDesign design.toNat = true := by rw [stagingDesign_of_staging hst, hid, decide_eq_true rfl]
  unfold takeColormapWrite
  simp only [State.invalidateFor, staging, if_true]
  split
  · exact owned_refuse _
  · exact owned_test fun _ => owned_test fun _ => owned_test fun _ => .inr (edited_wct (edits_settled hst hid) hst _)

/-! ### Commands taken in STOPPED alone -/

/-- The sections changed alone. -/
theorem stoppedEdit_sections (u : State) (x : Vector Section 8) : StoppedEdit u { u with pcm.sections := x } :=
  ⟨rfl, rfl, rfl, rfl, rfl, rfl, id⟩

/-- The float limiter changed alone. -/
theorem stoppedEdit_flm (u : State) (x : Flm) : StoppedEdit u { u with flm := x } :=
  ⟨rfl, rfl, rfl, rfl, rfl, rfl, id⟩

/-- A chain's record changed for one that shifts no transfer. -/
theorem stoppedEdit_chain (u : State) (i : Nat) {f : Chain → Chain} (h : ∀ c y, (f c).shift = some y → y.work ≠ .transfer) :
    StoppedEdit u (u.updateChain i f) := by
  refine ⟨rfl, rfl, rfl, rfl, rfl, rfl, fun quiet => ?_⟩
  rw [Bool.eq_false_iff, Ne, shifting_iff] at quiet ⊢
  rintro ⟨j, hj, y, hy, work, shifts⟩
  have chain : (u.updateChain i f).chain j = if i = j ∧ i < 4 then f (u.chain i) else u.chain j := tabGet_tabSet ..
  rw [chain] at hy
  split at hy
  · exact h _ y hy work
  · exact quiet ⟨j, hj, y, hy, work, shifts⟩

/-- SECTION_WRITE (R75). -/
theorem owned_sectionWrite (index : Byte) (f c : BitVec 16) (mode hmode : Byte) (o : BitVec 16) (fixedWeave lw : Byte)
    (hst : s.pcm.staging = some st) : Owned (takeSectionWrite index f c mode hmode o fixedWeave lw s) s st True := by
  refine owned_test fun stopped => ?_
  split
  · exact owned_refuse _
  · next x _ =>
    let written : Section := { x with lw := clampedLw x.mode x.lw }
    have gone := recordGone_abandoned (f := fun u => { u with pcm.sections := tabSet u.pcm.sections index.toNat written })
      (fun u => stoppedEdit_sections u _) hst (not_not.1 stopped)
    exact owned_test fun _ => .inr (gone.edited hst (not_not.1 stopped))

/-- FLOAT_LIMITS (R109). -/
theorem owned_floatLimits (warpLimit : Byte) (hst : s.pcm.staging = some st) : Owned (takeFloatLimits warpLimit s) s st True := by
  refine owned_test fun stopped => .inr (RecordGone.edited ?_ hst (not_not.1 stopped))
  exact recordGone_abandoned (f := fun u => State.rebuildRuns { u with flm.lwarp := clampedLwarp warpLimit.toNat })
    (fun u => stoppedEdit_flm u _) hst (not_not.1 stopped)

/-- CHAIN_CONFIG (R129). -/
theorem owned_chainConfig (chain modules divisor : Byte) (hst : s.pcm.staging = some st) :
    Owned (takeChainConfig chain modules divisor s) s st True := by
  refine owned_test fun _ => owned_test fun stopped => owned_test fun _ => owned_test fun _ =>
    .inr (RecordGone.edited ?_ hst (not_not.1 stopped))
  exact recordGone_abandoned (f := fun u => u.updateChain chain.toNat fun _ => Chain.configured modules.toNat divisor.toNat)
    (fun u => stoppedEdit_chain u _ fun c y hy => by simp [Chain.configured] at hy) hst (not_not.1 stopped)

/-- CHAIN_PROBE, whose probe then holds BUSY (R130). -/
theorem owned_chainProbe (chain : Byte) (hst : s.pcm.staging = some st) : Owned (takeChainProbe chain s) s st True := by
  refine owned_test fun _ => owned_test fun stopped => owned_test fun _ => ?_
  have pattern (c : Chain) (y) (hy : c.probing.shift = some y) : y.work ≠ .transfer := by
    have work : c.probing.shift.map (·.work) = some .probe := rfl
    rw [hy, Option.map_some, Option.some.injEq] at work
    rw [work]
    decide
  have gone : RecordGone s s.abandonWork.invalidate :=
    recordGone_abandoned (f := id) (fun u => stoppedEdit_flm u u.flm) hst (not_not.1 stopped)
  have probing : RecordGone s (s.abandonWork.invalidate.updateChain chain.toNat Chain.probing) :=
    gone.edit (stoppedEdit_chain _ _ pattern)
  split
  · exact .inr (probing.edited hst (not_not.1 stopped))
  · exact owned_refuse _

end Sys2Proof.Machine.Program
end

section
/-! The staging record under the list in every weaving state (R93 to R96), and a step that opens again. -/

namespace Sys2Proof.Machine.Program

open Sys2Proof Sys2Proof.Machine

variable {s : State} {st : Staging} {before after : List StepRec} {x : StepRec}

/-- The step that a discarded record leaves, once it is PENDING again (R40). -/
def returned (x : StepRec) : StepRec := { x with state := .waiting, rowBase := none }

/-- The queue once a record is discarded that the shed's step is not the step of (R40). -/
theorem discarded_steps_split (hst : s.pcm.staging = some st) (hq : s.pq.steps = before ++ x :: after) (hx : x.seq = st.pick.seq)
    (opened : x.state = .opened) (hb : ∀ y ∈ before, y.seq ≠ x.seq) (ha : ∀ y ∈ after, y.seq ≠ x.seq)
    (left : ∀ p, s.ph.shed = some p → p.seq ≠ x.seq) : s.discarded.pq.steps = before ++ returned x :: after := by
  have stands {l : List StepRec} (hl : ∀ y ∈ l, y.seq ≠ x.seq) : l.map (leftStep s.ph.shed st.pick.seq) = l :=
    (List.map_congr_left fun y hy => if_neg fun h => hl y hy (h.1.trans hx.symm)).trans (List.map_id l)
  have leaves : leftStep s.ph.shed st.pick.seq x = returned x :=
    if_pos ⟨hx, opened, by
      rw [← hx]
      cases hs : s.ph.shed with
      | none => rfl
      | some p => simpa using left p hs⟩
  rw [discarded_of_staging hst, hq, List.map_append, List.map_cons, stands hb, stands ha, leaves]

/-- A shed at the last pick of a step before it lies in another step. -/
theorem AtStepEnd.shed_seq (h : AtStepEnd s before) (hb : ∀ y ∈ before, y.seq ≠ x.seq) (p : Pick) (hp : s.ph.shed = some p) :
    p.seq ≠ x.seq := by
  rcases h with none | ⟨q, z, hq, hz, hmem, -⟩
  · rw [none] at hp
    cases hp
  · obtain rfl : q = p := by rw [hq] at hp; exact Option.some.inj hp
    exact step?_seq hz ▸ hb z hmem

/-- What asked for pick 0 of a step asks for it after the discard, too. -/
theorem AtStepEnd.discarded (h : AtStepEnd s before) (hst : s.pcm.staging = some st) : AtStepEnd s.discarded before := by
  rcases h with none | ⟨q, z, hq, hz, last⟩
  · exact .inl (by simpa using none)
  · exact .inr ⟨q, z, by simpa using hq, discarded_step?_shed hst hq hz, last⟩

/-- A step that opens is found OPEN (R38). -/
theorem openStep_step? (s : State) (r : StepRec) : (s.openStep r).step? r.seq =
    (s.step? r.seq).map fun y => { y with state := .opened, rowBase := some (openingBase s.pq.steps r.seq) } := by
  rw [State.step?, openStep_steps]
  exact find_update_same (f := fun y => { y with state := .opened, rowBase := some (openingBase s.pq.steps r.seq) }) _ fun _ => rfl

/-- A record of pick 0 discarded in RUNNING: its step opens again for a new record, with the G of the old and no channel (R38, R40, R96). -/
theorem discarded_reopens (hst : s.pcm.staging = some st) (hq : s.pq.steps = before ++ x :: after) (hx : x.seq = st.pick.seq)
    (opened : x.state = .opened) (hb : ∀ y ∈ before, y.state ≠ .waiting ∧ y.seq ≠ x.seq) (ha : ∀ y ∈ after, y.seq ≠ x.seq)
    (h : AtStepEnd s before) (unserved : s.wsu.servedG ≠ some s.nextG) :
    ∃ p, s.discarded.beginComposition = recorded (s.discarded.openStep (returned x)) p ∧
      (p.g, p.seq, p.t, p.channel) = (s.nextG, x.seq, 0, none) := by
  have others : ∀ y ∈ before, y.seq ≠ x.seq := fun y hy => (hb y hy).2
  have steps := discarded_steps_split hst hq hx opened others ha fun p => h.shed_seq others p
  have hn : s.discarded.nextAnswer = .pick (returned x).seq 0 false :=
    nextAnswer_opens steps (fun y hy => (hb y hy).1) rfl (h.discarded hst)
  have hr : s.discarded.step? (returned x).seq = some (returned x) := by
    rw [State.step?, steps]
    exact find_split others
  obtain ⟨e, p, moved, he, hp, begins⟩ := begins_of_pick hn hr
  have opens : e = s.discarded.openStep (returned x) := he.trans (enterStep_waiting hr rfl)
  have numbered : s.discarded.nextG = s.nextG := by
    simp only [State.nextG, discarded_of_staging hst]
  rw [numbered] at hp
  obtain ⟨hg, -⟩ : p.g = s.nextG ∧ _ := by simpa using hp
  have checked : (recorded e p).checkChannel = recorded e p := by
    obtain ⟨wsu, -⟩ := moved.stands
    refine checkChannel_unserved rfl (.inl ?_)
    rw [show (recorded e p).wsu = e.wsu from rfl, wsu]
    simpa [hg] using unserved
  exact ⟨p, by rw [begins, checked, opens], hp⟩

/-- The list keeps the states and the images of the chains. -/
theorem invalidate_chain (hst : s.pcm.staging = some st) (late : ∀ r, st.phase ≠ .composing r) {i : Nat} (hi : i < 4) :
    (s.invalidate.chain i).image = (s.chain i).image ∧ (s.invalidate.chain i).state = (s.chain i).state := by
  have hcu : s.invalidate.hcu = s.discarded.hcu := by
    by_cases running : s.stu.weaving = .running
    · rw [invalidate_running hst late running]; simp
    · rw [s.invalidate_of_late st hst late running]
  obtain ⟨state, image, -⟩ := dropTransfer_cases (s.chain i)
  rw [State.chain, hcu, ← State.chain, discarded_chain hst hi]
  exact ⟨image, state⟩

/-- FAULT_REMOVE of an entry: the entry is gone, and the staging record meets the list (R151, R93). -/
theorem exec_faultRemove {hook : BitVec 16} {e : FaultEntry} (hb : s.dlp.work = none) (low : hook.toNat < 12288)
    (he : s.hft.find hook.toNat = some e) :
    ∃ (x : Hft) (port answered : Dlp), x.find hook.toNat = none ∧
      exec (.faultRemove hook) s = .next { State.invalidate { s with hft := x, dlp := port } with dlp := answered } := by
  let u : State := { s.frameIn (frameOf (.faultRemove hook)) with hft.entries := s.hft.entries.filter fun x => x.hook ≠ hook.toNat }
  obtain ⟨frame, shiftedOut, -, -⟩ := invalidate_stands u
  have owner : takeFaultRemove hook (s.frameIn (frameOf (.faultRemove hook))) =
      .accept (e.payload ++ u8 (s.hft.entries.filter fun x => x.hook ≠ hook.toNat).length) u.invalidate := by
    rw [takeFaultRemove_range low, show (s.frameIn _).hft.find hook.toNat = some e from he]
    rfl
  refine ⟨u.hft, u.dlp, _, List.find?_eq_none.2 fun x hx => ?_, accepts_of_owner (v := u.invalidate) rfl hb owner ⟨frame, shiftedOut⟩⟩
  simpa using (List.mem_filter.1 hx).2

/-- Settles O54: each command by its owner; a step opens again as at any pick 0. -/
theorem stagingInvalidation : Obligations.StagingInvalidation := by
  refine ⟨fun c s t st hb hst event h accepted => ?_, fun s hook e st hb low he hst => ?_⟩
  · cases c with
    | stepCut seq => exact edited_of_exec rfl hb (owned_stepCut seq hst) h accepted
    | weaveWrite id ww wh rows => exact edited_of_exec rfl hb (owned_weaveWrite id ww wh rows hst) h accepted
    | faultPut hook action spare => exact edited_of_exec rfl hb (owned_faultPut hook action spare hst) h accepted
    | faultRemove hook => exact edited_of_exec rfl hb (owned_faultRemove hook hst) h accepted
    | sectionWrite index f c mode hmode o fixedWeave lw =>
      exact edited_of_exec rfl hb (owned_sectionWrite index f c mode hmode o fixedWeave lw hst) h accepted
    | floatLimits warpLimit => exact edited_of_exec rfl hb (owned_floatLimits warpLimit hst) h accepted
    | chainConfig chain modules divisor => exact edited_of_exec rfl hb (owned_chainConfig chain modules divisor hst) h accepted
    | chainProbe chain => exact edited_of_exec rfl hb (owned_chainProbe chain hst) h accepted
    | cells count packed =>
      obtain ⟨w, hw, hid⟩ := event
      exact edited_of_exec rfl hb (owned_cells hst hw hid) h accepted
    | cellsMore count packed =>
      obtain ⟨w, hw, hid⟩ := event
      exact edited_of_exec rfl hb (owned_cells hst hw hid) h accepted
    | colormapWrite design colour slots => exact edited_of_exec rfl hb (owned_colormapWrite hst event) h accepted
    | _ => exact False.elim event
  · obtain ⟨x, port, answered, gone, removed⟩ := exec_faultRemove hb low he
    let u : State := { s with hft := x, dlp := port }
    have hu : u.pcm.staging = some st := hst
    refine ⟨_, removed, by simpa using gone, fun r hr => ?_, fun late => ⟨fun i hi => invalidate_chain hu late hi, fun still => ?_, ?_⟩⟩
    · rw [u.invalidate_of_early (by simp [hu, hr])]
      exact ⟨rfl, rfl, rfl⟩
    · rw [u.invalidate_of_late st hu late still]
      refine ⟨by rw [discarded_of_staging hu], fun x hx => ?_⟩
      have found : u.discarded.step? st.pick.seq = some (leftStep s.ph.shed st.pick.seq x) := by
        rw [discarded_step? hu, show u.step? st.pick.seq = some x from hx]
        rfl
      refine Eq.trans found (congrArg some ?_)
      simp only [leftStep, step?_seq hx, true_and]
    · intro before x after running hq hseq opened hbefore hafter atEnd unserved
      have number := nextG_eq s
      obtain ⟨p, begins, hp⟩ := discarded_reopens hu hq hseq opened hbefore hafter atEnd
        fun h => unserved (h.trans (congrArg some number))
      rw [invalidate_running hu late running, begins]
      obtain ⟨flagOpened, -, -⟩ := openStep_flags u.discarded (returned x)
      refine ⟨?_, ?_, ?_, flagOpened, ?_⟩
      · exact (congrArg some hp).trans (congrArg (fun g => some (g, x.seq, 0, none)) number)
      · simp [recorded]
      · have found : u.step? x.seq = some x := (congrArg _ hq).trans (find_split fun y hy => (hbefore y hy).2)
        have left : u.discarded.step? (returned x).seq = _ := (discarded_step? hu x.seq).trans (congrArg _ found)
        exact ⟨_, (openStep_step? u.discarded (returned x)).trans (congrArg _ left), rfl⟩
      · show (u.discarded.openStep (returned x)).evs.opened = _
        rw [openStep_evs]
        rfl

end Sys2Proof.Machine.Program
end

section
/-! The cursor of a window (R57): where it stands after k advances; and DESIGN_WINDOW (R56). -/

namespace Sys2Proof.Machine.Program

open Sys2Proof Sys2Proof.Machine

/-! ### One axis of the cursor -/

/-- The place `k` on from the start of a range in a direction (R57). -/
def placeOn (dir : Dir) (low high k : Nat) : Nat := match dir with | .up => low + k | .down => high - k

variable {low high j k : Nat}

/-- The last place of a range, and no other, is the one the cursor returns from. -/
theorem placeOn_eq_last (dir : Dir) (h : low + j ≤ high) :
    placeOn dir low high j = placeOn dir low high (high - low) ↔ j + 1 = high - low + 1 := by
  cases dir <;> simp only [placeOn] <;> omega

/-- A move from a place leads to the next, and from the last place to the first (R57). -/
theorem placeOn_next (dir : Dir) (h : low + j ≤ high) :
    (if placeOn dir low high j = placeOn dir low high (high - low) then placeOn dir low high 0 else dir.move (placeOn dir low high j)) =
      placeOn dir low high ((j + 1) % (high - low + 1)) := by
  by_cases last : j + 1 = high - low + 1
  · rw [if_pos ((placeOn_eq_last dir h).2 last), last, Nat.mod_self]
  · rw [if_neg (mt (placeOn_eq_last dir h).1 last), Nat.mod_eq_of_lt (by omega)]
    cases dir <;> simp only [placeOn, Dir.move] <;> omega

/-! ### Both axes -/

/-- A window with its cursor `a` places on in row_dir and `b` in col_dir. -/
def cursorAt (w : Window) (a b : Nat) : Window :=
  { w with row := placeOn w.rowDir w.row0 w.row1 a, col := placeOn w.colDir w.col0 w.col1 b }

variable {w : Window} {a b : Nat}

/-- The last column of the traversal as a place (R57). -/
theorem endCol_eq (h : w.col0 ≤ w.col1) : w.endCol = placeOn w.colDir w.col0 w.col1 (w.col1 - w.col0) := by
  unfold Window.endCol placeOn
  cases w.colDir <;> simp <;> omega

/-- The last row of the traversal as a place (R57). -/
theorem endRow_eq (h : w.row0 ≤ w.row1) : w.endRow = placeOn w.rowDir w.row0 w.row1 (w.row1 - w.row0) := by
  unfold Window.endRow placeOn
  cases w.rowDir <;> simp <;> omega

/-- The start corner (R56). -/
theorem home_eq (w : Window) : w.home = cursorAt w 0 0 := by
  unfold Window.home cursorAt Window.startRow Window.startCol placeOn
  cases w.rowDir <;> cases w.colDir <;> rfl

/-- The column that follows, its range gone round (R57). -/
theorem nextCol_cursorAt (h : w.col0 + b ≤ w.col1) :
    (cursorAt w a b).nextCol = placeOn w.colDir w.col0 w.col1 ((b + 1) % (w.col1 - w.col0 + 1)) := by
  rw [← placeOn_next w.colDir h, ← endCol_eq (by omega), show placeOn w.colDir w.col0 w.col1 0 = w.startCol from
    (congrArg Window.col (home_eq w)).symm]
  rfl

/-- The row that follows, its range gone round (R57). -/
theorem nextRow_cursorAt (h : w.row0 + a ≤ w.row1) :
    (cursorAt w a b).nextRow = placeOn w.rowDir w.row0 w.row1 ((a + 1) % (w.row1 - w.row0 + 1)) := by
  rw [← placeOn_next w.rowDir h, ← endRow_eq (by omega), show placeOn w.rowDir w.row0 w.row1 0 = w.startRow from
    (congrArg Window.row (home_eq w)).symm]
  rfl

/-- ROW_FIRST: the column moves, and the row when the column returns to its start (R57). -/
theorem advance_cursorAt_rowFirst (ho : w.order = .rowFirst) (hc : w.col0 + b ≤ w.col1) (hr : w.row0 + a ≤ w.row1) :
    (cursorAt w a b).advance =
      cursorAt w (if b + 1 = w.col1 - w.col0 + 1 then (a + 1) % (w.row1 - w.row0 + 1) else a) ((b + 1) % (w.col1 - w.col0 + 1)) := by
  have last : (cursorAt w a b).col = (cursorAt w a b).endCol ↔ b + 1 = w.col1 - w.col0 + 1 := by
    rw [← placeOn_eq_last w.colDir hc, ← endCol_eq (w := w) (by omega)]
    rfl
  simp only [Window.advance, show (cursorAt w a b).order = .rowFirst from ho, nextCol_cursorAt hc, nextRow_cursorAt hr, last]
  simp only [cursorAt, ho, apply_ite (placeOn w.rowDir w.row0 w.row1)]

/-- COLUMN_FIRST: the row moves, and the column when the row returns to its start (R57). -/
theorem advance_cursorAt_columnFirst (ho : w.order = .columnFirst) (hc : w.col0 + b ≤ w.col1) (hr : w.row0 + a ≤ w.row1) :
    (cursorAt w a b).advance =
      cursorAt w ((a + 1) % (w.row1 - w.row0 + 1)) (if a + 1 = w.row1 - w.row0 + 1 then (b + 1) % (w.col1 - w.col0 + 1) else b) := by
  have last : (cursorAt w a b).row = (cursorAt w a b).endRow ↔ a + 1 = w.row1 - w.row0 + 1 := by
    rw [← placeOn_eq_last w.rowDir hr, ← endRow_eq (w := w) (by omega)]
    rfl
  simp only [Window.advance, show (cursorAt w a b).order = .columnFirst from ho, nextCol_cursorAt hc, nextRow_cursorAt hr, last]
  simp only [cursorAt, ho, apply_ite (placeOn w.colDir w.col0 w.col1)]

/-- The slower of two places counts where the faster one returns to 0. -/
theorem succ_div_mod (k m : Nat) {n : Nat} (hn : 0 < n) :
    (k + 1) / n % m = if k % n + 1 = n then (k / n % m + 1) % m else k / n % m := by
  have step : (k + 1) / n = k / n + if k % n + 1 = n then 1 else 0 := by
    rw [Nat.succ_div]
    congr 2
    rw [Nat.dvd_iff_mod_eq_zero, ← Nat.mod_add_mod]
    have := Nat.mod_lt k hn
    by_cases h : k % n + 1 = n
    · simp [h]
    · simp [h, Nat.mod_eq_of_lt (show k % n + 1 < n by omega)]
  rw [step]
  split
  · rw [Nat.mod_add_mod]
  · rfl

/-- A position of two places that moves on by the faster one, and by the slower one where that returns to 0. -/
theorem repeat_two_places {α : Type} {f : α → α} {place : Nat → Nat → α} {n m : Nat} (hn : 0 < n) (hm : 0 < m)
    (move : ∀ i j, i < n → j < m → f (place i j) = place ((i + 1) % n) (if i + 1 = n then (j + 1) % m else j)) (k : Nat) :
    Nat.repeat f k (place 0 0) = place (k % n) (k / n % m) := by
  induction k with
  | zero => simp [Nat.repeat]
  | succ k ih =>
    rw [Nat.repeat, ih, move _ _ (Nat.mod_lt k hn) (Nat.mod_lt _ hm), succ_div_mod k m hn, Nat.mod_add_mod]

/-- Where the cursor stands after `k` advances from the start corner, the column the faster (R57). -/
theorem repeat_advance_rowFirst (ho : w.order = .rowFirst) (hc : w.col0 ≤ w.col1) (hr : w.row0 ≤ w.row1) (k : Nat) :
    Nat.repeat Window.advance k (cursorAt w 0 0) =
      cursorAt w (k / (w.col1 - w.col0 + 1) % (w.row1 - w.row0 + 1)) (k % (w.col1 - w.col0 + 1)) :=
  repeat_two_places (place := fun b a => cursorAt w a b) (Nat.succ_pos _) (Nat.succ_pos _)
    (fun b a hb ha => advance_cursorAt_rowFirst ho (by omega) (by omega)) k

/-- Where the cursor stands after `k` advances from the start corner, the row the faster (R57). -/
theorem repeat_advance_columnFirst (ho : w.order = .columnFirst) (hc : w.col0 ≤ w.col1) (hr : w.row0 ≤ w.row1) (k : Nat) :
    Nat.repeat Window.advance k (cursorAt w 0 0) =
      cursorAt w (k % (w.row1 - w.row0 + 1)) (k / (w.row1 - w.row0 + 1) % (w.col1 - w.col0 + 1)) :=
  repeat_two_places (place := cursorAt w) (Nat.succ_pos _) (Nat.succ_pos _)
    (fun a b ha hb => advance_cursorAt_columnFirst ho (by omega) (by omega)) k

/-! ### DESIGN_WINDOW -/

/-- An order byte (R56). -/
theorem orderOf_eq (b : Byte) : orderOf b = if b.toNat ≤ 1 then some (if b = 0 then .rowFirst else .columnFirst) else none := by
  have : b = 0#8 ∨ b = 1#8 ∨ ¬ b.toNat ≤ 1 := by bv_omega
  rcases this with rfl | rfl | h
  · rfl
  · rfl
  · rw [if_neg h, orderOf, if_neg (by bv_omega), if_neg (by bv_omega)]

/-- A direction byte (R56). -/
theorem dirOf_eq (b : Byte) : dirOf b = if b.toNat ≤ 1 then some (if b = 0 then .up else .down) else none := by
  have : b = 0#8 ∨ b = 1#8 ∨ ¬ b.toNat ≤ 1 := by bv_omega
  rcases this with rfl | rfl | h
  · rfl
  · rfl
  · rw [if_neg h, dirOf, if_neg (by bv_omega), if_neg (by bv_omega)]

section Command

variable {s : State} {id order colDir rowDir : Byte} {col0 col1 row0 row1 : BitVec 16}

/-- The codes of a DESIGN_WINDOW that have a meaning (R56). -/
def WindowCodes (id order colDir rowDir : Byte) : Prop :=
  id.toNat < 16 ∧ order.toNat ≤ 1 ∧ colDir.toNat ≤ 1 ∧ rowDir.toNat ≤ 1

/-- The window that a DESIGN_WINDOW asks for, its cursor at the start corner (R56). -/
def windowAsked (id order colDir rowDir : Byte) (col0 col1 row0 row1 : BitVec 16) : Window :=
  { design := id.toNat, col0 := col0.toNat, col1 := col1.toNat, row0 := row0.toNat, row1 := row1.toNat,
    order := if order = 0 then .rowFirst else .columnFirst, colDir := if colDir = 0 then .up else .down,
    rowDir := if rowDir = 0 then .up else .down, row := if rowDir = 0 then row0.toNat else row1.toNat,
    col := if colDir = 0 then col0.toNat else col1.toNat }

/-- The cursor asked for stands at the start corner. -/
theorem windowAsked_home : cursorAt (windowAsked id order colDir rowDir col0 col1 row0 row1) 0 0 =
    windowAsked id order colDir rowDir col0 col1 row0 row1 := by
  have start (b : Byte) (low high : Nat) :
      placeOn (if b = 0 then .up else .down) low high 0 = if b = 0 then low else high := by split <;> rfl
  simp only [cursorAt, windowAsked, start]

/-- A code without a meaning refuses the window (R56). -/
theorem takeDesignWindow_badCode (h : ¬ WindowCodes id order colDir rowDir) :
    takeDesignWindow id col0 col1 row0 row1 order colDir rowDir s = .refuse .badField s := by
  unfold takeDesignWindow
  rw [orderOf_eq, dirOf_eq, dirOf_eq]
  by_cases ho : order.toNat ≤ 1
  · by_cases hc : colDir.toNat ≤ 1
    · by_cases hr : rowDir.toNat ≤ 1
      · simp only [ho, hc, hr, if_true]
        exact if_pos (Nat.not_lt.1 fun hid => h ⟨hid, ho, hc, hr⟩)
      · simp [ho, hc, hr]
    · simp [ho, hc]
  · simp [ho]

/-- With its codes in order the command asks for the record, then for the ranges (R56). -/
theorem takeDesignWindow_codes (h : WindowCodes id order colDir rowDir) :
    takeDesignWindow id col0 col1 row0 row1 order colDir rowDir s = (s.design? id.toNat).elim (.refuse .notFound s) fun d =>
      if col1.toNat < col0.toNat ∨ d.w ≤ col1.toNat ∨ row1.toNat < row0.toNat ∨ d.h ≤ row1.toNat then .refuse .badField s
      else
        let w := windowAsked id order colDir rowDir col0 col1 row0 row1
        .accept (u32 w.size ++ w.cursorPayload) { s with ps.window := some w } := by
  obtain ⟨hid, ho, hc, hr⟩ := h
  unfold takeDesignWindow
  rw [orderOf_eq, dirOf_eq, dirOf_eq]
  simp only [ho, hc, hr, if_true, if_neg (Nat.not_le.2 hid), home_eq]
  rw [← windowAsked_home]
  cases s.design? id.toNat <;> rfl

end Command

/-- Settles O45: the tests in order; the cursor by the two axes, the faster and the slower. -/
theorem windowAndCursor : Obligations.WindowAndCursor := by
  intro s id order colDir rowDir col0 col1 row0 row1 hb c codes
  have asks := fun (f : List Byte) (h : codes) =>
    takeDesignWindow_codes (s := s.frameIn f) (col0 := col0) (col1 := col1) (row0 := row0) (row1 := row1) h
  refine ⟨fun h => refuses_of_owner rfl hb (takeDesignWindow_badCode h), fun h hn => refuses_of_owner rfl hb ((asks _ h).trans ?_), ?_⟩
  · rw [show (s.frameIn _).design? id.toNat = none from hn]
    rfl
  intro d h hd ranges width height place
  have found := fun f => (asks f h).trans (by rw [show (s.frameIn f).design? id.toNat = some d from hd, Option.elim_some])
  refine ⟨fun hr => refuses_of_owner rfl hb ((found _).trans (if_pos ?_)), fun hr => ⟨_, rfl, accepts_plain rfl hb ?_, fun k => ?_⟩⟩
  · simp only [ranges] at hr
    omega
  · refine (found _).trans ((if_neg ?_).trans ?_)
    · obtain ⟨hc, hw, hr, hh⟩ := hr
      omega
    · exact congrArg (Taken.accept · _) (List.append_assoc ..).symm
  · obtain ⟨hc, -, hr, -⟩ := hr
    have axis (dir : Byte) (low high k : Nat) : placeOn (if dir = 0 then .up else .down) low high k = place dir low high k := by
      simp only [place]
      split <;> rfl
    obtain ⟨-, code, -, -⟩ := h
    rcases (by bv_omega : order = 0 ∨ order = 1) with rfl | rfl
    · have visit := repeat_advance_rowFirst (w := windowAsked id 0 colDir rowDir col0 col1 row0 row1) rfl hc hr k
      rw [windowAsked_home] at visit
      intro x
      rw [show x = _ from visit]
      exact ⟨rfl, fun _ => ⟨axis .., axis ..⟩, nofun⟩
    · have visit := repeat_advance_columnFirst (w := windowAsked id 1 colDir rowDir col0 col1 row0 row1) rfl hc hr k
      rw [windowAsked_home] at visit
      intro x
      rw [show x = _ from visit]
      exact ⟨rfl, nofun, fun _ => ⟨axis .., axis ..⟩⟩

end Sys2Proof.Machine.Program
end

section
/-! Cells read at the cursor (R59), and the sum of a design's cells (R61). -/

namespace Sys2Proof.Machine.Program

open Sys2Proof Sys2Proof.Machine

/-- A command taken by its owner that holds BUSY. -/
theorem holds_of_owner {c : Instr} {owner : State → Taken} {s t : State} {work : DlWork} (ho : ownerOf c = some owner)
    (hb : s.dlp.work = none) (h : owner (s.frameIn (frameOf c)) = .hold work (t.frameIn (frameOf c))) : Holds c s work t := by
  rw [Holds, exec_command ho, takeCommand_free c owner ((busy_eq_false s).2 hb), h]
  rfl

/-- A record present in the directory passes the test for its absence. -/
theorem present_of_isSome {s : State} {n : Nat} (h : (s.design? n).isSome) : ¬ (s.design? n).isNone = true := by
  rwa [Bool.not_eq_true, Option.isNone_eq_false_iff]

/-! ### Reading at the cursor -/

/-- The cells read are those the cursor visits, in their order (R59). -/
theorem readAtCursor_eq (d : Design) (m : CellMem) (n : Nat) (w : Window) :
    readAtCursor d m n w =
      ((List.range n).map fun k => readCell m (cursorAddr d (Nat.repeat Window.advance k w)), Nat.repeat Window.advance n w) := by
  induction n generalizing w with
  | zero => rfl
  | succ n ih =>
    simp only [readAtCursor, ih, List.range_succ_eq_map, List.map_cons, List.map_map, Function.comp_def, repeat_succ]
    rfl

/-- With a window on a present design a read asks for the count, then reads from the start corner or the cursor (R59). -/
theorem takeRead_window {s : State} {w : Window} {d : Design} (fromStart : Bool) (count : BitVec 16) (hw : s.ps.window = some w)
    (hd : s.design? w.design = some d) :
    takeRead fromStart count s =
      if count.toNat = 0 ∨ 2048 < count.toNat then .refuse .badField s
      else
        let visit := fun k => Nat.repeat Window.advance k (writeStart fromStart w)
        .accept
          (bytes16 count ++ packCells ((List.range count.toNat).map fun k => readCell s.ps.cells (cursorAddr d (visit k))) ++
            (visit count.toNat).cursorPayload)
          { s with ps.window := some (visit count.toNat) } := by
  unfold takeRead
  simp only [hw, hd, readAtCursor_eq]
  rfl

/-! ### The cells of a design -/

section Cells

variable {d : Design} {r c r' c' : Nat}

/-- The block of a cell (R46). -/
theorem cellAddr_div (d : Design) (r c : Nat) : d.cellAddr r c / 512 = d.base + (r * d.blocksPerRow + c / 512) := by
  simp only [Design.cellAddr, Config.cellsPerBlock]
  omega

/-- The place of a cell in its block (R46). -/
theorem cellAddr_mod (d : Design) (r c : Nat) : d.cellAddr r c % 512 = c % 512 := by
  simp only [Design.cellAddr, Config.cellsPerBlock]
  omega

/-- A column lies in one of the blocks of its row. -/
theorem column_block (hc : c < d.w) : c / 512 < d.blocksPerRow := by
  simp only [Design.blocksPerRow, Config.cellsPerBlock]
  omega

/-- The row and the block within it that a block of the run stands for. -/
theorem rowBlock_div_mod (r : Nat) {b n : Nat} (h : b < n) : (r * n + b) / n = r ∧ (r * n + b) % n = b := by
  rw [Nat.mul_comm]
  exact ⟨by rw [Nat.mul_add_div (by omega), Nat.div_eq_of_lt h, Nat.add_zero], by rw [Nat.mul_add_mod, Nat.mod_eq_of_lt h]⟩

/-- Each cell has an address of its own (R46). -/
theorem cellAddr_inj (hc : c < d.w) (hc' : c' < d.w) (h : d.cellAddr r c = d.cellAddr r' c') : r = r' ∧ c = c' := by
  have block : r * d.blocksPerRow + c / 512 = r' * d.blocksPerRow + c' / 512 := by
    have := congrArg (· / 512) h
    simpa only [cellAddr_div, Nat.add_left_cancel_iff] using this
  have place : c % 512 = c' % 512 := by rw [← cellAddr_mod d r c, h, cellAddr_mod]
  obtain ⟨row, column⟩ := rowBlock_div_mod r (column_block hc)
  obtain ⟨row', column'⟩ := rowBlock_div_mod r' (column_block hc')
  rw [block] at row column
  exact ⟨row.symm.trans row', by omega⟩

/-- The addresses of a design's cells, padding left out (R61). -/
theorem holdsCell_iff (a : Nat) : d.holdsCell a = true ↔ ∃ r, r < d.h ∧ ∃ c, c < d.w ∧ d.cellAddr r c = a := by
  refine decide_eq_true_iff.trans ?_
  simp only [Config.cellsPerBlock, Design.blocks]
  constructor
  · rintro ⟨low, high, column⟩
    have positive : 0 < d.blocksPerRow := Nat.pos_of_ne_zero fun h => by rw [h] at high; omega
    refine ⟨(a / 512 - d.base) / d.blocksPerRow, ?_, _, column, ?_⟩
    · rw [Nat.div_lt_iff_lt_mul positive]
      omega
    · have split := Nat.div_add_mod' (a / 512 - d.base) d.blocksPerRow
      simp only [Design.cellAddr, Config.cellsPerBlock]
      generalize (a / 512 - d.base) / d.blocksPerRow * d.blocksPerRow = x at split ⊢
      omega
  · rintro ⟨r, hr, c, hc, rfl⟩
    obtain ⟨-, column⟩ := rowBlock_div_mod r (column_block hc)
    have row : (r + 1) * d.blocksPerRow ≤ d.h * d.blocksPerRow := Nat.mul_le_mul_right _ hr
    have := column_block hc
    rw [Nat.succ_mul] at row
    rw [cellAddr_div, cellAddr_mod, Nat.add_sub_cancel_left, column]
    omega

/-- The addresses of a design's cells row by row. -/
def cellAddrs (d : Design) : List Nat := (List.range d.h).flatMap fun r => (List.range d.w).map (d.cellAddr r)

/-- They are the addresses that the sum takes in (R61). -/
theorem mem_cellAddrs (a : Nat) : a ∈ cellAddrs d ↔ d.holdsCell a = true := by
  simp [cellAddrs, holdsCell_iff]

/-- No address comes twice. -/
theorem cellAddrs_nodup (d : Design) : (cellAddrs d).Nodup := by
  refine List.nodup_flatMap.2 ⟨fun r _ => List.nodup_range.map_on fun c hc c' hc' h => ?_, List.nodup_range.imp fun hr => ?_⟩
  · exact (cellAddr_inj (List.mem_range.1 hc) (List.mem_range.1 hc') h).2
  · simp only [Function.onFun, List.disjoint_left, List.mem_map, List.mem_range]
    rintro _ ⟨c, hc, rfl⟩ ⟨c', hc', h⟩
    exact hr (cellAddr_inj hc hc' h.symm).1

end Cells

/-- What the cells of some addresses add up to: an unlisted cell adds 0. -/
theorem sum_readCell {m : CellMem} (hm : m.wf = true) {l : List Nat} (hl : l.Nodup) :
    (l.map fun a => (readCell m a).toNat).sum = ((m.filter fun p => p.1 ∈ l).map fun p => p.2.toNat).sum := by
  induction m with
  | nil => simp [readCell]
  | cons q rest ih =>
    obtain ⟨b, x⟩ := q
    rw [CellMem.wf_iff, List.pairwise_cons] at hm
    obtain ⟨⟨first, sorted⟩, listed⟩ := hm
    have ih := ih ((CellMem.wf_iff _).2 ⟨sorted, fun p hp => listed p (List.mem_cons_of_mem _ hp)⟩)
    have split (a : Nat) : (readCell ((b, x) :: rest) a).toNat = (if a = b then x.toNat else 0) + (readCell rest a).toNat := by
      by_cases h : a = b
      · subst h
        simp [readCell, readCell_below first]
      · simp [readCell, h]
    have here : (l.map fun a => if a = b then x.toNat else 0).sum = if b ∈ l then x.toNat else 0 := by
      rw [List.sum_map_ite, List.filter_eq, List.Nodup.count hl]
      split <;> simp
    simp only [split, List.sum_map_add, ih, here, List.filter_cons]
    split <;> simp [*]

/-- The sum of a design's cells (R61). -/
theorem cellSum_eq (d : Design) {m : CellMem} (hm : m.wf = true) :
    d.cellSum m = ((List.range d.h).flatMap fun r => (List.range d.w).map fun c => (readCell m (d.cellAddr r c)).toNat).sum := by
  have listed : (cellAddrs d).map (fun a => (readCell m a).toNat) =
      (List.range d.h).flatMap fun r => (List.range d.w).map fun c => (readCell m (d.cellAddr r c)).toNat := by
    simp [cellAddrs, List.map_flatMap, Function.comp_def]
  rw [← listed, sum_readCell hm (cellAddrs_nodup d)]
  simp only [Design.cellSum, mem_cellAddrs, Bool.decide_eq_true]

/-! ### The statement -/

/-- With an id in range the summing asks for the record, then holds BUSY (R61). -/
theorem takeDesignSum_range {s : State} {id : Byte} (h : id.toNat < 16) :
    takeDesignSum id s = if (s.design? id.toNat).isNone then .refuse .notFound s else .hold (.sum id.toNat) s :=
  if_neg (Nat.not_le.2 h)

/-- Settles O47: reads by the visits of the cursor; the sum over the addresses of the design's cells, each counted once. -/
theorem cellReadsAndSum : Obligations.CellReadsAndSum := by
  intro s
  refine ⟨fun fromStart count hb => ?_, fun id hb => ⟨fun h => ?_, fun h hn => ?_, fun h hd => ?_⟩, fun other => ?_,
    fun i d hwork hd hw canonical => ?_⟩
  · intro c n counted
    have owner : ownerOf c = some (takeRead fromStart count) := by cases fromStart <;> rfl
    refine ⟨fun hw => refuses_of_owner owner hb (by simp only [takeRead, State.frameIn_ps, hw]), fun w d hw hd => ?_⟩
    have asks := fun f : List Byte => takeRead_window (s := s.frameIn f) fromStart count hw hd
    refine ⟨fun hc => refuses_of_owner owner hb ((asks _).trans (if_pos ?_)), fun hc => accepts_plain owner hb ((asks _).trans ?_)⟩
    · simp only [counted] at hc
      omega
    · rw [if_neg (by simp only [counted] at hc; omega)]
      cases fromStart <;> rfl
  · exact refuses_of_owner rfl hb (if_pos h)
  · exact refuses_of_owner rfl hb ((takeDesignSum_range h).trans (if_pos (Option.isNone_iff_eq_none.2 hn)))
  · exact holds_of_owner rfl hb ((takeDesignSum_range h).trans (if_neg (present_of_isSome hd)))
  · show Host.Outcome.next _ = _
    split
    · next i h => exact absurd h (other i)
    · rfl
  · show Host.Outcome.next _ = _
    simp only [hwork, State.sumDone, hd, cellSum_eq d canonical]
    rfl

end Sys2Proof.Machine.Program
end

section
/-! The free runs of the pattern store: the maximal runs of blocks that no design holds (R48, R50). -/

namespace Sys2Proof.Machine.Program

open Sys2Proof Sys2Proof.Machine

/-! ### Runs of blocks -/

/-- Whether a block lies in a run (first, length). -/
def InRun (r : Nat × Nat) (b : Nat) : Prop := r.1 ≤ b ∧ b < r.1 + r.2

/-- Runs of blocks of the store from `start` on that share no block, in increasing block number. -/
def RunsFrom (start : Nat) (l : List (Nat × Nat)) : Prop :=
  l.Pairwise (fun x y => x.1 + x.2 ≤ y.1) ∧ ∀ x ∈ l, start ≤ x.1 ∧ 0 < x.2 ∧ x.1 + x.2 ≤ 65536

variable {l : List (Nat × Nat)} {x : Nat × Nat} {start : Nat}

/-- The runs that follow the first begin where it ends. -/
theorem RunsFrom.rest (h : RunsFrom start (x :: l)) : RunsFrom (x.1 + x.2) l := by
  obtain ⟨apart, bounds⟩ := h
  rw [List.pairwise_cons] at apart
  refine ⟨apart.2, fun y hy => ?_⟩
  obtain ⟨-, positive, within⟩ := bounds y (List.mem_cons_of_mem _ hy)
  exact ⟨apart.1 y hy, positive, within⟩

/-- A run put among others. -/
theorem mem_insertRun {y : Nat × Nat} : y ∈ insertRun x l ↔ y = x ∨ y ∈ l := by
  induction l with
  | nil => simp [insertRun]
  | cons z rest ih =>
    unfold insertRun
    split
    · simp
    · simp only [List.mem_cons, ih]
      tauto

/-- A run put among runs it shares no block with. -/
theorem runsFrom_insertRun (h : RunsFrom start l) (hx : start ≤ x.1 ∧ 0 < x.2 ∧ x.1 + x.2 ≤ 65536)
    (apart : ∀ y ∈ l, x.1 + x.2 ≤ y.1 ∨ y.1 + y.2 ≤ x.1) : RunsFrom start (insertRun x l) := by
  refine ⟨?_, fun y hy => (mem_insertRun.1 hy).elim (fun h => h ▸ hx) (h.2 y)⟩
  obtain ⟨sorted, bounds⟩ := h
  induction l with
  | nil => simp [insertRun]
  | cons z rest ih =>
    have hz := apart z (List.mem_cons_self ..)
    have lengths := bounds z (List.mem_cons_self ..)
    rw [List.pairwise_cons] at sorted
    unfold insertRun
    split
    · refine List.pairwise_cons.2 ⟨fun y hy => ?_, List.pairwise_cons.2 sorted⟩
      rcases List.mem_cons.1 hy with rfl | hy
      · omega
      · have := sorted.1 y hy
        omega
    · refine List.pairwise_cons.2 ⟨fun y hy => ?_, ih (fun y hy => apart y (List.mem_cons_of_mem _ hy)) sorted.2 fun y hy =>
        bounds y (List.mem_cons_of_mem _ hy)⟩
      rcases mem_insertRun.1 hy with rfl | hy
      · omega
      · exact sorted.1 y hy

/-- Runs put in order, one after the other. -/
theorem mem_foldr_insertRun {r : Nat × Nat} : r ∈ l.foldr insertRun [] ↔ r ∈ l := by
  induction l with
  | nil => rfl
  | cons x rest ih => rw [List.foldr_cons, mem_insertRun, ih, List.mem_cons]

/-- Runs that share no block, put one among the others. -/
theorem runsFrom_foldr_insertRun (bounds : ∀ x ∈ l, 0 < x.2 ∧ x.1 + x.2 ≤ 65536)
    (apart : l.Pairwise fun x y => x.1 + x.2 ≤ y.1 ∨ y.1 + y.2 ≤ x.1) : RunsFrom 0 (l.foldr insertRun []) := by
  induction l with
  | nil => exact ⟨.nil, nofun⟩
  | cons x rest ih =>
    rw [List.pairwise_cons] at apart
    exact runsFrom_insertRun (ih (fun y hy => bounds y (List.mem_cons_of_mem _ hy)) apart.2)
      ⟨Nat.zero_le _, bounds x (List.mem_cons_self ..)⟩ fun y hy => apart.1 y (mem_foldr_insertRun.1 hy)

/-! ### The gaps between runs -/

/-- The gap before the first run, if there is one, and those after it. -/
theorem mem_gaps_cons {r : Nat × Nat} :
    r ∈ gaps start (x :: l) ↔ (start < x.1 ∧ r = (start, x.1 - start)) ∨ r ∈ gaps (x.1 + x.2) l := by
  obtain ⟨b, n⟩ := x
  rw [gaps]
  split <;> simp [*]

/-- A free run lies in the store from `start` on (R48). -/
theorem gaps_bounds (h : RunsFrom start l) : ∀ r ∈ gaps start l, start ≤ r.1 ∧ 0 < r.2 ∧ r.1 + r.2 ≤ 65536 := by
  induction l generalizing start with
  | nil =>
    intro r hr
    rw [gaps, Config.blockCount, List.mem_ite_nil_right, List.mem_singleton] at hr
    obtain ⟨room, rfl⟩ := hr
    simp only
    omega
  | cons x rest ih =>
    obtain ⟨low, positive, high⟩ := h.2 x (List.mem_cons_self ..)
    intro r hr
    rcases mem_gaps_cons.1 hr with ⟨between, rfl⟩ | hr
    · simp only
      omega
    · have := ih h.rest r hr
      omega

/-- What lies between two free runs is held (R48). -/
theorem gaps_apart (h : RunsFrom start l) : (gaps start l).Pairwise fun x y => x.1 + x.2 < y.1 := by
  induction l generalizing start with
  | nil =>
    unfold gaps
    split <;> simp
  | cons x rest ih =>
    obtain ⟨b, n⟩ := x
    obtain ⟨low, positive, -⟩ := h.2 (b, n) (List.mem_cons_self ..)
    unfold gaps
    split
    · refine List.pairwise_cons.2 ⟨fun r hr => ?_, ih h.rest⟩
      have := gaps_bounds h.rest r hr
      simp only at *
      omega
    · exact ih h.rest

/-- The blocks of the free runs are those that no run holds (R48). -/
theorem gaps_cover (h : RunsFrom start l) {b : Nat} (low : start ≤ b) (high : b < 65536) :
    (∃ r ∈ gaps start l, InRun r b) ↔ ∀ x ∈ l, ¬ InRun x b := by
  induction l generalizing start with
  | nil =>
    have : start < 65536 := by omega
    simp only [gaps, Config.blockCount, this, if_true, List.mem_singleton, exists_eq_left, InRun, List.not_mem_nil, false_implies,
      implies_true, iff_true]
    omega
  | cons x rest ih =>
    obtain ⟨hs, hn, -⟩ := h.2 x (List.mem_cons_self ..)
    have gap : (∃ r ∈ gaps start (x :: rest), InRun r b) ↔ b < x.1 ∨ ∃ r ∈ gaps (x.1 + x.2) rest, InRun r b := by
      simp only [mem_gaps_cons, or_and_right, exists_or, and_assoc, exists_and_left, exists_eq_left, InRun]
      apply or_congr_left
      omega
    rw [gap, List.forall_mem_cons]
    by_cases before : b < x.1 + x.2
    · have later : ¬ ∃ r ∈ gaps (x.1 + x.2) rest, InRun r b := by
        rintro ⟨r, hr, hb, -⟩
        have := gaps_bounds h.rest r hr
        omega
      have free : ∀ y ∈ rest, ¬ InRun y b := by
        rintro y hy ⟨hb, -⟩
        have := h.rest.2 y hy
        omega
      rw [or_iff_left later, and_iff_left free, InRun]
      omega
    · rw [← ih h.rest (by omega)]
      simp only [InRun]
      constructor
      · rintro (hb | hr)
        · omega
        · exact ⟨by omega, hr⟩
      · exact fun hr => .inr hr.2

/-! ### The designs' runs -/

/-- The blocks of a design are the run its record gives (R47). -/
theorem blocks_eq (d : Design) : d.blocks = d.h * ((d.w + 511) / 512) := rfl

/-- Whether a design of the directory holds a block. -/
def Held (s : State) (b : Nat) : Prop := ∃ i d, s.design? i = some d ∧ InRun (d.base, d.blocks) b

variable {s : State}

/-- A record of the directory. -/
theorem design?_eq_some (i : Nat) (d : Design) : s.design? i = some d ↔ ∃ h : i < 16, s.ps.directory[i] = some d := by
  unfold State.design? tabGet
  by_cases h : i < 16 <;> simp [h]

/-- The runs of the present designs. -/
theorem mem_usedRuns {r : Nat × Nat} : r ∈ usedRuns s.ps.directory ↔ ∃ i d, s.design? i = some d ∧ r = (d.base, d.blocks) := by
  simp only [usedRuns, mem_foldr_insertRun, List.mem_filterMap, Vector.mem_toList_iff, Vector.mem_iff_getElem,
    Option.map_eq_some_iff, design?_eq_some]
  constructor
  · rintro ⟨_, ⟨i, hi, rfl⟩, d, hd, rfl⟩
    exact ⟨i, d, ⟨hi, hd⟩, rfl⟩
  · rintro ⟨i, d, ⟨hi, hd⟩, rfl⟩
    exact ⟨_, ⟨i, hi, rfl⟩, d, hd, rfl⟩

/-- The runs of a sound directory share no block and lie in the store (R47, R50). -/
theorem runsFrom_usedRuns (sound : DirectorySound s) : RunsFrom 0 (usedRuns s.ps.directory) := by
  refine runsFrom_foldr_insertRun ?_ ?_
  · intro x hx
    simp only [List.mem_filterMap, Vector.mem_toList_iff, Vector.mem_iff_getElem, Option.map_eq_some_iff] at hx
    obtain ⟨_, ⟨i, hi, rfl⟩, d, hd, rfl⟩ := hx
    have present := (design?_eq_some i d).2 ⟨hi, hd⟩
    obtain ⟨⟨hw, -, hh, -, within⟩, -⟩ := sound i i d d present present
    exact ⟨Nat.mul_pos hh (Nat.div_pos (by omega) (by decide)), within⟩
  · rw [List.pairwise_filterMap, List.pairwise_iff_getElem]
    intro i j hi hj hij x hx y hy
    simp only [Vector.getElem_toList, Option.map_eq_some_iff] at hx hy
    obtain ⟨d, hd, rfl⟩ := hx
    obtain ⟨e, he, rfl⟩ := hy
    exact (sound i j d e ((design?_eq_some i d).2 ⟨by simpa using hi, hd⟩) ((design?_eq_some j e).2 ⟨by simpa using hj, he⟩)).2
      (Nat.ne_of_lt hij)

/-- Between two free runs of a sound directory some block is held (R48). -/
theorem freeRuns_apart (sound : DirectorySound s) : (freeRuns s.ps.directory).Pairwise fun x y => x.1 + x.2 < y.1 :=
  gaps_apart (runsFrom_usedRuns sound)

/-- Two free runs, in either order. -/
theorem freeRuns_apart_of_ne (sound : DirectorySound s) {x y : Nat × Nat} (hx : x ∈ freeRuns s.ps.directory)
    (hy : y ∈ freeRuns s.ps.directory) (other : x ≠ y) : x.1 + x.2 < y.1 ∨ y.1 + y.2 < x.1 := by
  let apart := fun x y : Nat × Nat => x.1 + x.2 < y.1 ∨ y.1 + y.2 < x.1
  have : Std.Symm apart := ⟨fun _ _ => Or.symm⟩
  have all : (freeRuns s.ps.directory).Pairwise apart := (freeRuns_apart sound).imp Or.inl
  exact all.forall hx hy other

/-- A free run is not empty and lies in the store. -/
theorem freeRuns_bounds (sound : DirectorySound s) : ∀ r ∈ freeRuns s.ps.directory, 0 < r.2 ∧ r.1 + r.2 ≤ 65536 :=
  fun r hr => (gaps_bounds (runsFrom_usedRuns sound) r hr).2

/-- The blocks of the free runs are those that no design holds (R48). -/
theorem freeRuns_cover (sound : DirectorySound s) {b : Nat} (h : b < 65536) :
    ¬ Held s b ↔ ∃ r ∈ freeRuns s.ps.directory, InRun r b := by
  rw [freeRuns, gaps_cover (runsFrom_usedRuns sound) (Nat.zero_le b) h]
  simp only [mem_usedRuns, Held]
  constructor
  · rintro h _ ⟨i, d, hd, rfl⟩ hb
    exact h ⟨i, d, hd, hb⟩
  · rintro h ⟨i, d, hd, hb⟩
    exact h _ ⟨i, d, hd, rfl⟩ hb

/-! ### The longest run and the first fit -/

/-- The longest of some runs in increasing block number, the first of them where several are longest (R62). -/
theorem longestRun_spec (sorted : l.Pairwise fun x y => x.1 < y.1) :
    (∀ r ∈ l, r.2 ≤ (longestRun l).2) ∧ (l ≠ [] → longestRun l ∈ l) ∧ ∀ r ∈ l, r.2 = (longestRun l).2 → (longestRun l).1 ≤ r.1 := by
  induction l with
  | nil => exact ⟨nofun, fun h => absurd rfl h, nofun⟩
  | cons x rest ih =>
    rw [List.pairwise_cons] at sorted
    obtain ⟨most, listed, first⟩ := ih sorted.2
    unfold longestRun
    split
    · next longer =>
      refine ⟨fun r hr => ?_, fun _ => List.mem_cons_self .., fun r hr _ => ?_⟩
      · rcases List.mem_cons.1 hr with rfl | hr
        · exact Nat.le_refl _
        · exact Nat.le_trans (most r hr) longer
      · rcases List.mem_cons.1 hr with rfl | hr
        · exact Nat.le_refl _
        · exact Nat.le_of_lt (sorted.1 r hr)
    · next shorter =>
      have nonempty : rest ≠ [] := by
        rintro rfl
        exact shorter (Nat.zero_le _)
      refine ⟨fun r hr => ?_, fun _ => List.mem_cons_of_mem _ (listed nonempty), fun r hr same => ?_⟩
      · rcases List.mem_cons.1 hr with rfl | hr
        · omega
        · exact most r hr
      · rcases List.mem_cons.1 hr with rfl | hr
        · omega
        · exact first r hr same

/-- Whether some blocks from `base` on are blocks of the store that no design holds. -/
def Fits (s : State) (need base : Nat) : Prop := base + need ≤ 65536 ∧ ∀ b, base ≤ b → b < base + need → ¬ Held s b

/-- Blocks fit where one free run has them all (R50). -/
theorem fits_iff (sound : DirectorySound s) {need base : Nat} (hn : 0 < need) :
    Fits s need base ↔ ∃ r ∈ freeRuns s.ps.directory, r.1 ≤ base ∧ base + need ≤ r.1 + r.2 := by
  constructor
  · rintro ⟨within, free⟩
    obtain ⟨r, hr, low, high⟩ := (freeRuns_cover sound (by omega)).1 (free base (Nat.le_refl _) (by omega))
    refine ⟨r, hr, low, Nat.le_of_not_lt fun past => ?_⟩
    obtain ⟨r', hr', low', high'⟩ := (freeRuns_cover sound (by omega)).1 (free (r.1 + r.2) (by omega) past)
    rcases eq_or_ne r r' with rfl | other
    · omega
    · have := freeRuns_apart_of_ne sound hr hr' other
      omega
  · rintro ⟨r, hr, low, high⟩
    have := freeRuns_bounds sound r hr
    exact ⟨by omega, fun b hb hb' => (freeRuns_cover sound (by omega)).2 ⟨r, hr, by omega, by omega⟩⟩

/-- First fit finds no run where nothing fits (R50). -/
theorem firstFit_none (sound : DirectorySound s) {need : Nat} (hn : 0 < need) (h : ∀ base, ¬ Fits s need base) :
    firstFit s.ps.directory need = none := by
  rw [firstFit, Option.map_eq_none_iff, List.find?_eq_none]
  intro r hr enough
  exact h r.1 ((fits_iff sound hn).2 ⟨r, hr, Nat.le_refl _, by simp at enough; omega⟩)

/-- First fit finds the lowest block from which the blocks asked for fit (R50). -/
theorem firstFit_some (sound : DirectorySound s) {need base : Nat} (hn : 0 < need) (fits : Fits s need base)
    (first : ∀ b, b < base → ¬ Fits s need b) : firstFit s.ps.directory need = some base := by
  have starts : ∀ r ∈ freeRuns s.ps.directory, need ≤ r.2 → base ≤ r.1 := fun r hr enough =>
    Nat.le_of_not_lt fun low => first _ low ((fits_iff sound hn).2 ⟨r, hr, Nat.le_refl _, by omega⟩)
  obtain ⟨r, hr, low, high⟩ := (fits_iff sound hn).1 fits
  have start := starts r hr (by omega)
  have least := freeRuns_apart sound
  rw [firstFit, Option.map_eq_some_iff]
  obtain ⟨x, hx⟩ := Option.isSome_iff_exists.1
    (List.find?_isSome (p := fun x : Nat × Nat => decide (need ≤ x.2)) |>.2 ⟨r, hr, decide_eq_true (by omega)⟩)
  refine ⟨x, hx, Nat.le_antisymm ?_ (starts x (List.mem_of_find?_eq_some hx) (by simpa using List.find?_some hx))⟩
  obtain ⟨-, before, after, split, unfit⟩ := List.find?_eq_some_iff_append.1 hx
  rw [split, List.mem_append, List.mem_cons] at hr
  rcases hr with hr | rfl | hr
  · have := unfit r hr
    simp only [Bool.not_eq_true', decide_eq_false_iff_not] at this
    omega
  · exact low
  · rw [split, List.pairwise_append, List.pairwise_cons] at least
    obtain ⟨-, ⟨least, -⟩, -⟩ := least
    have := least r hr
    omega

end Sys2Proof.Machine.Program
end

section
/-! DESIGN_DEFINE and the end of its clearing (R49, R50); DESIGN_DELETE, DESIGN_INFO and STORE_FREE (R51, R52, R62). -/

namespace Sys2Proof.Machine.Program

open Sys2Proof Sys2Proof.Machine

/-! ### DESIGN_DELETE, DESIGN_INFO, STORE_FREE -/

section Records

variable {s : State} {id : Byte} {d : Design}

/-- With its id in range a delete asks for the record, then for the steps that name it (R51). -/
theorem takeDesignDelete_range (h : id.toNat < 16) :
    takeDesignDelete id s =
      if (s.design? id.toNat).isNone then .refuse .notFound s
      else if s.pq.steps.any fun r => r.design = id.toNat then .refuse .inUse s
      else
        let dir := tabSet s.ps.directory id.toNat none
        .accept (freePayload dir)
          { s with ps.directory := dir, ps.window := s.ps.window.filter fun w => w.design ≠ id.toNat } := by
  have window : (if s.ps.window.any fun w => w.design = id.toNat then none else s.ps.window) =
      s.ps.window.filter fun w => w.design ≠ id.toNat := by
    cases s.ps.window with
    | none => rfl
    | some w => by_cases hw : w.design = id.toNat <;> simp [hw, Option.filter]
  rw [takeDesignDelete, if_neg (Nat.not_le.2 h)]
  simp only [window]

/-- With its id in range DESIGN_INFO asks for the record (R52). -/
theorem takeDesignInfo_range (h : id.toNat < 16) :
    takeDesignInfo id s = (s.design? id.toNat).elim (.refuse .notFound s) fun d =>
      .accept (u16 d.w ++ u16 d.h ++ u16 d.base ++ u8 d.blocksPerRow ++ uFlag d.liveEdit ++ uFlag (s.locked id.toNat) ++
        stepCounts (s.pq.steps.filter fun r => r.design = id.toNat)) s := by
  rw [takeDesignInfo, if_neg (Nat.not_le.2 h)]
  cases s.design? id.toNat <;> rfl

/-- A design is locked while an OPEN or CLOSED record names it (R53). -/
theorem locked_eq (s : State) (n : Nat) :
    s.locked n = s.pq.steps.any fun r => r.design = n ∧ (r.state = .opened ∨ r.state = .closed) := by
  have state (r : StepRec) : r.state ≠ .waiting ↔ r.state = .opened ∨ r.state = .closed := by cases r.state <;> simp
  simp only [State.locked, state]

/-- The records of a state among those that name a design. -/
theorem countSteps_filter (q : List StepRec) (n : Nat) (x : StepState) :
    countSteps (q.filter fun r => r.design = n) x = q.countP fun r => decide (r.design = n) && decide (r.state = x) := by
  simp only [countSteps, List.countP_filter, Bool.and_comm]

end Records

/-- Settles O44: the free runs as the gaps between the designs' runs; each command by its owner. -/
theorem designRecordsAndFreeSpace : Obligations.DesignRecordsAndFreeSpace := by
  intro s id sound n runs used named directory count
  have names : (s.pq.steps.any fun r => r.design = n) = true ↔ named := by simp [named]
  refine ⟨fun b hb => freeRuns_cover sound hb, freeRuns_apart sound, freeRuns_bounds sound, fun hb => ⟨?_, ?_, ?_⟩⟩
  · refine ⟨fun h => refuses_of_owner rfl hb (if_pos h), fun h hn => ?_, fun h hd hs => ?_, fun h hd hs => ?_⟩
    · exact refuses_of_owner rfl hb ((takeDesignDelete_range h).trans (if_pos (Option.isNone_iff_eq_none.2 hn)))
    · exact refuses_of_owner rfl hb
        ((takeDesignDelete_range h).trans ((if_neg (present_of_isSome hd)).trans (if_pos (names.2 hs))))
    · exact accepts_plain rfl hb
        ((takeDesignDelete_range h).trans ((if_neg (present_of_isSome hd)).trans (if_neg (mt names.1 hs))))
  · refine ⟨fun h => refuses_of_owner rfl hb (if_pos h), fun h hn => refuses_of_owner rfl hb ?_, fun d h hd => accepts_plain rfl hb ?_⟩
    · rw [takeDesignInfo_range h, show (s.frameIn _).design? id.toNat = none from hn]
      rfl
    · rw [takeDesignInfo_range h, show (s.frameIn _).design? id.toNat = some d from hd, Option.elim_some, locked_eq, stepCounts]
      simp only [countSteps_filter]
      rfl
  · obtain ⟨most, listed, first⟩ := longestRun_spec ((freeRuns_apart sound).imp fun h => by omega)
    refine ⟨(longestRun runs).2, (longestRun runs).1, most, fun h => ?_, fun h => ⟨listed h, first⟩, accepts_plain rfl hb rfl⟩
    rw [h]
    exact ⟨rfl, rfl⟩

/-! ### DESIGN_DEFINE -/

section Define

variable {s : State} {id live : Byte} {w h : BitVec 16}

/-- The fields of DESIGN_DEFINE within the ranges its first test asks for (R49). -/
def DefineFields (id live : Byte) (w h : BitVec 16) : Prop :=
  id.toNat < 16 ∧ 1 ≤ w.toNat ∧ w.toNat ≤ 6144 ∧ 1 ≤ h.toNat ∧ h.toNat ≤ 16384 ∧ live.toNat ≤ 1

/-- A field out of its range refuses the define (R49). -/
theorem takeDesignDefine_badField (hf : ¬ DefineFields id live w h) : takeDesignDefine id w h live s = .refuse .badField s := by
  unfold takeDesignDefine
  by_cases flag : live.toNat ≤ 1
  · rw [flagOf_eq flag]
    refine if_pos ?_
    simp only [DefineFields] at hf
    omega
  · rw [flagOf_none flag]

/-- With its fields in range a define asks for the id, then for room by first fit (R50). -/
theorem takeDesignDefine_fields (hf : DefineFields id live w h) :
    takeDesignDefine id w h live s =
      if (s.design? id.toNat).isSome then .refuse .alreadyExists s
      else (firstFit s.ps.directory (h.toNat * ((w.toNat + 511) / 512))).elim (.refuse .noSpace s) fun base =>
        let record : Design := { w := w.toNat, h := h.toNat, base := base, liveEdit := decide (live = 1) }
        .hold (.define id.toNat)
          { s with ps.directory := tabSet s.ps.directory id.toNat (some record), wct.maps := tabSet s.wct.maps id.toNat .empty } := by
  obtain ⟨hid, low, high, low', high', flag⟩ := hf
  unfold takeDesignDefine
  rw [flagOf_eq flag]
  simp only [blocks_eq]
  rw [if_neg (by omega)]
  congr 1
  cases firstFit s.ps.directory (h.toNat * ((w.toNat + 511) / 512)) <;> rfl

end Define

/-- Settles O43: the tests in order, the first fit among the free runs, and the clearing of the design's blocks. -/
theorem designDefine : Obligations.DesignDefine := by
  intro s id live w h sound n c fields perRow need used fits
  have asks := fun (f : List Byte) (hf : fields) => takeDesignDefine_fields (s := s.frameIn f) hf
  have positive : fields → 0 < need := fun ⟨_, hw, _, hh, _⟩ => Nat.mul_pos hh (Nat.div_pos (by omega) (by decide))
  refine ⟨fun hb => ⟨fun hf => refuses_of_owner rfl hb (takeDesignDefine_badField hf),
    fun hf hd => refuses_of_owner rfl hb ((asks _ hf).trans (if_pos hd)), fun hf hd none => refuses_of_owner rfl hb ?_,
    fun base hf hd fit first => holds_of_owner rfl hb ?_⟩, fun other => ?_, fun i d hwork hd => ?_⟩
  · rw [asks _ hf, if_neg (by simp [show (s.frameIn _).design? id.toNat = .none from hd]), State.frameIn_ps,
      firstFit_none sound (positive hf) none]
    rfl
  · rw [asks _ hf, if_neg (by simp [show (s.frameIn _).design? id.toNat = .none from hd]), State.frameIn_ps,
      firstFit_some sound (positive hf) fit first]
    rfl
  · show Host.Outcome.next _ = _
    split
    · next i h => exact absurd h (other i)
    · rfl
  · refine ⟨s.defineDone i, ?_, ?_, ?_, fun a => ?_⟩
    · show Host.Outcome.next _ = _
      rw [hwork]
    all_goals simp only [State.defineDone, hd]
    · rfl
    · rfl
    · rw [State.answer_ps, readCell_clearCells, Config.cellsPerBlock, ← Nat.add_mul]
      rfl

end Sys2Proof.Machine.Program
end

section
/-! The lift of a composition hook by hook (R85): its sections' values, the float stage on each, and the reads they are worked out from. -/

namespace Sys2Proof.Machine.Program

open Sys2Proof Sys2Proof.Machine

/-! ### The float stage on one section (R101, R102) -/

section Float

variable (lw : Nat) (bar : Nat → Bool)

/-- The warp stage lowers the hooks that are barred, and no other (R101). -/
theorem warpStage_bits (h : Nat) (bits : List Bool) :
    (warpStage bar h bits).1.length = bits.length ∧
    ∀ i, (warpStage bar h bits).1.getD i false = (bits.getD i false && !bar (h + i)) := by
  induction bits generalizing h with
  | nil => simp [warpStage]
  | cons b rest ih =>
    obtain ⟨length, values⟩ := ih (h + 1)
    have first : warpStage bar h (b :: rest) =
        ((b && !bar h) :: (warpStage bar (h + 1) rest).1, (warpStage bar h (b :: rest)).2) := by
      cases b <;> cases hb : bar h <;> simp [warpStage, hb]
    rw [first]
    refine ⟨by simp [length], fun i => ?_⟩
    cases i with
    | zero => rfl
    | succ i => simp only [List.getD_cons_succ, values, Nat.add_assoc, Nat.add_comm 1]

/-- The weft scan on one hook: a raised one stays, and a barred one is not raised (R102). -/
theorem weftScan_cons (h run : Nat) (b : Bool) (rest : List Bool) :
    ∃ x run', (weftScan lw bar h run (b :: rest)).bits = x :: (weftScan lw bar (h + 1) run' rest).bits ∧
      (b = true → x = true) ∧ (bar h = true → b = false → x = false) := by
  cases b with
  | true => exact ⟨true, 0, rfl, fun _ => rfl, nofun⟩
  | false =>
    rw [weftScan]
    by_cases scan : run < lw ∨ bar h = true
    · exact ⟨false, run + 1, by rw [if_pos scan], nofun, fun _ _ => rfl⟩
    · exact ⟨true, 0, by rw [if_neg scan], nofun, fun hb => absurd (.inr hb) scan⟩

/-- The weft scan keeps what is raised, and raises no hook that is barred (R102). -/
theorem weftScan_bits (h run : Nat) (bits : List Bool) :
    (weftScan lw bar h run bits).bits.length = bits.length ∧
    ∀ i, (bits.getD i false = true → (weftScan lw bar h run bits).bits.getD i false = true) ∧
      (bar (h + i) = true → bits.getD i false = false → (weftScan lw bar h run bits).bits.getD i false = false) := by
  induction bits generalizing h run with
  | nil => simp [weftScan]
  | cons b rest ih =>
    obtain ⟨x, run', scan, kept, low⟩ := weftScan_cons lw bar h run b rest
    obtain ⟨length, values⟩ := ih (h + 1) run'
    rw [scan]
    refine ⟨congrArg (· + 1) length, fun i => ?_⟩
    cases i with
    | zero => exact ⟨kept, low⟩
    | succ i => simpa only [List.getD_cons_succ, Nat.add_assoc, Nat.add_comm 1] using values i

/-- What the float stage makes of each hook of a section. -/
theorem floatSection_bits (sec : Section) (bits : List Bool) :
    (floatSection bar sec bits).bits.length = bits.length ∧
    ∀ i, (bar (sec.f + i) = true → (floatSection bar sec bits).bits.getD i false = false) ∧
      (bar (sec.f + i) = false → (bits.getD i false = true → (floatSection bar sec bits).bits.getD i false = true) ∧
        (bits.getD i false = false → sec.lw = 0 → (floatSection bar sec bits).bits.getD i false = false)) := by
  obtain ⟨length, warp⟩ := warpStage_bits bar sec.f bits
  unfold floatSection
  by_cases hl : sec.lw = 0
  · simp only [hl, if_true]
    refine ⟨length, fun i => ⟨fun hb => ?_, fun hb => ⟨fun h => ?_, fun h _ => ?_⟩⟩⟩
    · rw [warp, hb, Bool.not_true, Bool.and_false]
    · rw [warp, hb, h, Bool.not_false, Bool.and_true]
    · rw [warp, h, Bool.false_and]
  · simp only [hl, if_false]
    obtain ⟨length', weft⟩ := weftScan_bits sec.lw bar sec.f 0 (warpStage bar sec.f bits).1
    refine ⟨length'.trans length, fun i => ⟨fun hb => (weft i).2 hb (by rw [warp, hb, Bool.not_true, Bool.and_false]),
      fun hb => ⟨fun h => (weft i).1 (by rw [warp, hb, h, Bool.not_false, Bool.and_true]), fun _ h => h.elim⟩⟩⟩

end Float

/-! ### The lift vector of the sections' values (R85) -/

/-- A list packed one place on. -/
theorem packFrom_succ (f : Nat) (bits : List Bool) : packFrom (f + 1) bits = 2 * packFrom f bits := by
  induction bits generalizing f with
  | nil => rfl
  | cons b rest ih =>
    rw [packFrom, packFrom, ih, Nat.mul_add, Nat.pow_succ, Nat.mul_comm (2 ^ f)]
    cases b <;> rfl

/-- The bits of a packed list stand from its first place on. -/
theorem testBit_packFrom (f h : Nat) (bits : List Bool) :
    (packFrom f bits).testBit h = (decide (f ≤ h) && bits.getD (h - f) false) := by
  induction f generalizing h with
  | zero =>
    induction bits generalizing h with
    | nil => simp [packFrom]
    | cons b rest ih =>
      cases h with
      | zero => cases b <;> simp [packFrom, packFrom_succ]
      | succ h =>
        have half : ((if b then 2 ^ 0 else 0) + 2 * packFrom 0 rest) / 2 = packFrom 0 rest := by cases b <;> simp; omega
        rw [packFrom, packFrom_succ, Nat.testBit_succ, half, ih]
        simp
  | succ f ih =>
    cases h with
    | zero => simp [packFrom_succ]
    | succ h => rw [packFrom_succ, Nat.testBit_succ, Nat.mul_div_cancel_left _ (by decide), ih]; simp

/-- A hook is raised where some section's value on it is (R85, R91). -/
theorem getLsbD_liftOf (l : List (Section × SectionFloat)) {h : Nat} (hh : h < 12288) :
    (liftOf l).getLsbD h = l.any fun y => decide (y.1.f ≤ h) && y.2.bits.getD (h - y.1.f) false := by
  have fold (acc : Lift) : (l.foldl (fun acc y => acc ||| BitVec.ofNat 12288 (packFrom y.1.f y.2.bits)) acc).getLsbD h =
      (acc.getLsbD h || l.any fun y => decide (y.1.f ≤ h) && y.2.bits.getD (h - y.1.f) false) := by
    induction l generalizing acc with
    | nil => simp
    | cons y rest ih =>
      rw [List.foldl_cons, ih, BitVec.getLsbD_or, BitVec.getLsbD_ofNat, testBit_packFrom, List.any_cons, Bool.or_assoc,
        decide_eq_true hh, Bool.true_and]
  rw [liftOf, fold, BitVec.getLsbD_zero, Bool.false_or]

/-! ### The sections and their reads (R82) -/

/-- Whether a section is one a row read is taken for. -/
def readsRow (x : Section) : Bool := decide (0 < x.c ∧ x.mode = .design)

/-- The reads go to the DESIGN sections in section order (R82). -/
theorem pairReads_getElem? (l : List Section) (rows : List CellMem) (i : Nat) :
    (pairReads l rows)[i]? = l[i]?.map fun x => (x, if readsRow x then rows.getD ((l.take i).countP readsRow) [] else []) := by
  induction l generalizing rows i with
  | nil => rfl
  | cons x rest ih =>
    have rows' : pairReads (x :: rest) rows =
        (x, if readsRow x then rows.getD 0 [] else []) :: pairReads rest (if readsRow x then rows.tail else rows) := by
      have head : rows.headD [] = rows.getD 0 [] := by cases rows <;> rfl
      by_cases h : 0 < x.c ∧ x.mode = .design
      · simp only [pairReads, readsRow, h, decide_true, and_self, if_true, head]
      · simp only [pairReads, readsRow, h, decide_false, if_false]
        rfl
    rw [rows']
    cases i with
    | zero => rfl
    | succ i =>
      have tail (n : Nat) : rows.tail.getD n [] = rows.getD (n + 1) [] := by cases rows <;> rfl
      rw [List.getElem?_cons_succ, List.getElem?_cons_succ, ih, List.take_succ_cons]
      by_cases h : readsRow x = true
      · simp only [h, if_true, List.countP_cons_of_pos h, tail]
      · simp only [h, List.countP_cons_of_neg h]
        rfl

/-- The section table as a list. -/
theorem sections_toList (s : State) : s.pcm.sections.toList = (List.range 8).map s.section := by
  refine List.ext_getElem (by simp) fun i hi _ => ?_
  have : i < 8 := by simpa using hi
  simp [State.section, tabGet, this]

/-- The row reads that go to sections before one. -/
def rowIndex (s : State) (i : Nat) : Nat := (List.range i).countP fun k => readsRow (s.section k)

/-- What the row read of a section found. -/
def sectionRow (s : State) (rows : List CellMem) (i : Nat) : CellMem :=
  if readsRow (s.section i) then rows.getD (rowIndex s i) [] else []

/-- The sections with their reads, one by one. -/
theorem mem_pairReads (s : State) (rows : List CellMem) (y : Section × CellMem) :
    y ∈ pairReads s.pcm.sections.toList rows ↔ ∃ i, i < 8 ∧ y = (s.section i, sectionRow s rows i) := by
  have entry (i : Nat) (hi : i < 8) : (pairReads s.pcm.sections.toList rows)[i]? = some (s.section i, sectionRow s rows i) := by
    rw [pairReads_getElem?, sections_toList, List.getElem?_map, List.getElem?_range hi, ← List.map_take, List.countP_map,
      List.take_range, Nat.min_eq_left (Nat.le_of_lt hi)]
    rfl
  rw [List.mem_iff_getElem?]
  constructor
  · rintro ⟨i, hy⟩
    have hi : i < 8 := by
      refine Nat.lt_of_not_le fun past => ?_
      rw [pairReads_getElem?, List.getElem?_eq_none (by simpa using past)] at hy
      cases hy
    exact ⟨i, hi, Option.some.inj (hy.symm.trans (entry i hi))⟩
  · rintro ⟨i, hi, rfl⟩
    exact ⟨i, entry i hi⟩

/-- What the float stage leaves of a section in a composition. -/
def sectionFloated (s : State) (p : Pick) (r : Reads) (i : Nat) : SectionFloat :=
  floatSection (barred s.flm.lwarp s.flm.runs) (s.section i)
    ((s.composition p r).sectionBits (sectionRow s r.rows i) (s.section i))

/-- The sections of count above 0, each as the float stage leaves it (R82). -/
theorem mem_floated (s : State) (p : Pick) (r : Reads) (y : Section × SectionFloat) :
    y ∈ s.floated p r ↔ ∃ i, i < 8 ∧ 0 < (s.section i).c ∧ y = (s.section i, sectionFloated s p r i) := by
  simp only [State.floated, List.mem_map, List.mem_filter, mem_pairReads, decide_eq_true_eq]
  constructor
  · rintro ⟨_, ⟨⟨i, hi, rfl⟩, hc⟩, rfl⟩
    exact ⟨i, hi, hc, rfl⟩
  · rintro ⟨i, hi, hc, rfl⟩
    exact ⟨_, ⟨⟨i, hi, rfl⟩, hc⟩, rfl⟩

/-- A hook that one section alone covers has the value the float stage leaves of it there (R85). -/
theorem lift_of_alone {s : State} {p : Pick} {r : Reads} {i h : Nat} (hi : i < 8) (hh : h < 12288)
    (covers : (s.section i).covers h = true) (alone : ∀ j, j < 8 → j ≠ i → (s.section j).covers h = false) :
    (composedPick p (s.floated p r)).lift.getLsbD h = (sectionFloated s p r i).bits.getD (h - (s.section i).f) false := by
  rw [composedPick, getLsbD_liftOf _ hh, Bool.eq_iff_iff, List.any_eq_true]
  simp only [mem_floated, Bool.and_eq_true, decide_eq_true_eq]
  constructor
  · rintro ⟨_, ⟨j, hj, -, rfl⟩, low, raised⟩
    rcases eq_or_ne j i with rfl | other
    · exact raised
    · have within : h - (s.section j).f < (sectionFloated s p r j).bits.length := by
        refine Nat.lt_of_not_le fun past => ?_
        rw [List.getD_eq_default _ _ past] at raised
        cases raised
      rw [sectionFloated, (floatSection_bits ..).1, Composition.sectionBits, List.length_map, List.length_range] at within
      have := alone j hj other
      simp only [Section.covers, decide_eq_false_iff_not] at this low
      omega
  · intro raised
    simp only [Section.covers, decide_eq_true_eq] at covers
    exact ⟨_, ⟨i, hi, by omega, rfl⟩, covers.1, raised⟩

/-- A hook that one section alone covers: lowered when barred, else raised where it is composed raised, and with no weft limit nowhere else
(R101, R102). -/
theorem lift_of_bit {s : State} {p : Pick} {r : Reads} {i h : Nat} (hi : i < 8) (hh : h < 12288)
    (covers : (s.section i).covers h = true) (alone : ∀ j, j < 8 → j ≠ i → (s.section j).covers h = false) {bit : Bool}
    (hbit : (s.composition p r).liftBit (sectionRow s r.rows i) (s.section i) (h - (s.section i).f) = bit) :
    let raised := (composedPick p (s.floated p r)).lift.getLsbD h
    let bar := s.flm.lwarp ≠ 0 ∧ runOf s.flm.runs h = s.flm.lwarp
    (bar → raised = false) ∧
      (¬ bar → (bit = true → raised = true) ∧ (bit = false → (s.section i).lw = 0 → raised = false)) := by
  intro raised bar
  have value : raised = _ := lift_of_alone (p := p) (r := r) hi hh covers alone
  simp only [Section.covers, decide_eq_true_eq] at covers
  obtain ⟨low, high⟩ := covers
  have composed : ((s.composition p r).sectionBits (sectionRow s r.rows i) (s.section i)).getD (h - (s.section i).f) false = bit := by
    rw [Composition.sectionBits, List.getD_eq_getElem _ _ (by simp; omega)]
    simpa using hbit
  obtain ⟨-, values⟩ := floatSection_bits (barred s.flm.lwarp s.flm.runs) (s.section i)
    ((s.composition p r).sectionBits (sectionRow s r.rows i) (s.section i))
  have values := values (h - (s.section i).f)
  rw [composed, Nat.add_sub_cancel' low] at values
  rw [value]
  exact ⟨fun hb => values.1 (decide_eq_true hb), fun hb => values.2 (decide_eq_false hb)⟩

/-! ### The reads taken when a composition ends (R60, R70, R82) -/

section Reads

variable {s : State} {p : Pick} {r : Reads} {step : StepRec}

/-- The row reads of a composition are those that go to the eight sections. -/
theorem designSections_eq (s : State) : s.designSections = rowIndex s 8 := by
  rw [State.designSections, sections_toList, List.countP_map]
  rfl

/-- The row read of a DESIGN section is one of the composition's. -/
theorem rowIndex_lt {i : Nat} (hi : i < 8) (h : readsRow (s.section i) = true) : rowIndex s i < s.designSections := by
  have upTo : rowIndex s (i + 1) = rowIndex s i + 1 := by
    rw [rowIndex, List.range_succ, List.countP_append, List.countP_singleton, if_pos h]
    rfl
  have sub : rowIndex s (i + 1) ≤ rowIndex s 8 := (List.range_sublist.2 hi).countP_le
  rw [designSections_eq]
  omega

/-- The slots a composition that ends works from: as its map read found them, or as they stand (R70). -/
theorem readsTo_slots (hs : s.step? p.seq = some step) (n colour : Nat) (hc : colour < 16) :
    ((s.readsTo p (n + 1) r).slots.getD []).getD colour none =
      match r.slots with | some slots => slots.getD colour none | none => tabGet (s.slots step.design colour) p.k none := by
  have id : s.pickDesign p = some step.design := congrArg (Option.map fun x : StepRec => x.design) hs
  rw [State.readsTo, id]
  cases r.slots with
  | some slots => rfl
  | none => simp [State.readSlots, hc]

/-- A cell of the design row as a row read finds it: as it was when the read was taken, or as it stands (R60). -/
theorem readsTo_row {d : Design} (hs : s.step? p.seq = some step) (hd : s.design? step.design = some d) {n col : Nat}
    (hn : n < s.designSections) (hc : col < d.w) :
    readCell ((s.readsTo p (s.designSections + 1) r).rows.getD n []) (d.cellAddr p.row col) =
      readCell (r.rows.getD n s.ps.cells) (d.cellAddr p.row col) := by
  have id : s.pickDesign p = some step.design := congrArg (Option.map fun x : StepRec => x.design) hs
  rw [State.readsTo, id]
  simp only [Nat.min_self, Option.getD_some]
  by_cases taken : n < r.rows.length
  · rw [List.getD_append _ _ _ _ taken, List.getD_eq_getElem _ _ taken, List.getD_eq_getElem _ _ taken]
  · rw [List.getD_append_right _ _ _ _ (Nat.not_lt.1 taken), List.getD_replicate _ (by omega),
      List.getD_eq_default _ _ (Nat.not_lt.1 taken), readCell_readRow hd hc]

/-- What a composition works from, with its step and its design present. -/
theorem composition_eq {d : Design} (hs : s.step? p.seq = some step) (hd : s.design? step.design = some d) :
    s.composition p r =
      { design := d, row := p.row, counter := (step.rowCounter p.t).toNat, g := p.g.toNat, slots := r.slots.getD [],
        weaves := s.wct.weaves } := by
  simp only [State.composition, State.pickStep, hs, Option.bind_some, hd, Option.map_some, Option.getD_some]

/-- λ of a hook of a DESIGN section, by the slot of its cell's colour (R89). -/
theorem liftBit_design (x : Composition) (cells : CellMem) {sec : Section} (mode : sec.mode = .design) (j : Nat) :
    x.liftBit cells sec j =
      match x.slots.getD (readCell cells (x.design.cellAddr x.row (sec.column x.design.w j))).toNat none with
      | none => false
      | some y => x.slotBit y j := by
  rw [Composition.liftBit, mode]
  simp only
  split <;> simp only [*]

/-- A design column is a column of the design (R88). -/
theorem column_lt (x : Section) {w : Nat} (hw : 0 < w) (j : Nat) : x.column w j < w := by
  unfold Section.column
  cases x.hmode with
  | straight => exact Nat.mod_lt _ hw
  | point =>
    have := Nat.mod_lt (x.o + j) (show 0 < max 1 (2 * w - 2) by omega)
    simp only
    split <;> omega

end Reads

/-- A transfer leaves the pick of the staging record (R132). -/
theorem tryTransfer_pick (s : State) : s.tryTransfer.pcm.staging.map (·.pick) = s.pcm.staging.map (·.pick) := by
  unfold State.tryTransfer
  split
  · next p runs h =>
    split
    · unfold State.finishTransfer
      rw [h]
      simp only
      split <;> simp [*]
    · rfl
  · rfl

/-- A composition in flight ends, and its transfer begins when it is due (R82, R132). -/
theorem exec_compositionEnd {s : State} {p : Pick} {r : Reads} (hst : s.pcm.staging = some ⟨p, .composing r⟩) :
    exec .compositionEnd s = .next (s.endComposition p r).tryTransfer := by
  show execCompositionEnd s = _
  rw [execCompositionEnd, hst]

/-- Settles O29: the hook's cell and slot as the reads find them, then the float stage on its section. -/
theorem designHookLift : Obligations.DesignHookLift := by
  intro s p r step d i h hst hstep hd hw hi hh covers alone mode sec j m col block before colour slot counter bit bar
  have reads : readsRow (s.section i) = true := by
    simp only [Section.covers, decide_eq_true_eq] at covers
    exact decide_eq_true ⟨by omega, mode⟩
  let all := s.readsTo p (s.designSections + 1) r
  have cell : (readCell (sectionRow s all.rows i) (d.cellAddr p.row ((s.section i).column d.w j))).toNat = colour := by
    rw [sectionRow, if_pos reads, readsTo_row hstep hd (rowIndex_lt hi reads) (column_lt (s.section i) hw j)]
    rfl
  have composed : (s.composition p all).liftBit (sectionRow s all.rows i) sec j = bit := by
    rw [liftBit_design _ _ mode, composition_eq hstep hd]
    simp only
    rw [readsTo_slots hstep _ _ (BitVec.isLt _), cell]
    rfl
  refine ⟨_, composedPick p (s.floated p all), exec_compositionEnd hst, ?_, lift_of_bit hi hh covers alone composed⟩
  rw [tryTransfer_pick]
  rfl

end Sys2Proof.Machine.Program
end

section
/-! WEAVE_WRITE and WEAVE_READ: when a weave is in use (R65), its rows as they are stored (R64). -/

namespace Sys2Proof.Machine.Program

open Sys2Proof Sys2Proof.Machine

/-! ### When a weave is in use (R65) -/

/-- The present entries of a table. -/
theorem tabGet_eq_some {α : Type} {n : Nat} (v : Vector (Option α) n) (x : α) : (∃ k, tabGet v k none = some x) ↔ some x ∈ v.toList := by
  simp only [List.mem_iff_getElem?, tabGet, Vector.getElem?_toList]
  constructor
  · rintro ⟨k, hk⟩
    cases h : v[k]? with
    | none => rw [h] at hk; cases hk
    | some y =>
      rw [h] at hk
      exact ⟨k, h.trans (congrArg some hk)⟩
  · rintro ⟨k, hk⟩
    exact ⟨k, by rw [hk]; rfl⟩

/-- A map names a weave by a present slot of one of its colours (R65). -/
theorem naming_pos (m : ColourMap) (n : Nat) :
    0 < m.naming n ↔ ∃ colour k x, colour < 16 ∧ tabGet (tabGet m colour (Vector.replicate 4 none)) k none = some x ∧ x.weave = n := by
  have present (x : Slot) : x ∈ m.present ↔ ∃ colour, colour < 16 ∧ some x ∈ (tabGet m colour (Vector.replicate 4 none)).toList := by
    simp only [ColourMap.present, List.mem_flatMap, List.mem_filterMap, id, exists_eq_right, Vector.mem_toList_iff, Vector.mem_iff_getElem]
    constructor
    · rintro ⟨_, ⟨colour, hc, rfl⟩, hx⟩
      exact ⟨colour, hc, by simpa [tabGet, hc, Vector.mem_iff_getElem] using hx⟩
    · rintro ⟨colour, hc, hx⟩
      exact ⟨_, ⟨colour, hc, rfl⟩, by simpa [tabGet, hc, Vector.mem_iff_getElem] using hx⟩
  simp only [ColourMap.naming, List.countP_pos_iff, present, decide_eq_true_eq, ← tabGet_eq_some]
  constructor
  · rintro ⟨x, ⟨colour, hc, k, hk⟩, hx⟩
    exact ⟨colour, k, x, hc, hk, hx⟩
  · rintro ⟨colour, k, x, hc, hk, hx⟩
    exact ⟨x, ⟨colour, hc, k, hk⟩, hx⟩

variable {s : State} {n : Nat}

/-- Whether a composition is in flight. -/
theorem isComposing_iff (s : State) : s.isComposing = true ↔ ∃ p r, s.pcm.staging = some ⟨p, .composing r⟩ := by
  unfold State.isComposing
  split
  · next p r h => exact iff_of_true rfl ⟨p, r, h⟩
  · next other => exact iff_of_false nofun fun ⟨p, r, h⟩ => other p r h

/-- What a composition in flight has read names a weave (R65). -/
theorem readNaming_iff (s : State) (n : Nat) :
    s.readNaming n = true ↔
      ∃ p slots read x, s.pcm.staging = some ⟨p, .composing ⟨some slots, read⟩⟩ ∧ some x ∈ slots ∧ x.weave = n := by
  unfold State.readNaming
  split
  · next p slots read h =>
    rw [h, List.any_eq_true]
    constructor
    · rintro ⟨o, ho, hx⟩
      obtain ⟨x, rfl, hx⟩ := (Option.any_eq_true ..).1 hx
      exact ⟨p, slots, read, x, rfl, ho, of_decide_eq_true hx⟩
    · rintro ⟨_, _, _, x, ⟨⟩, ho, hx⟩
      exact ⟨some x, ho, decide_eq_true hx⟩
  · next other => exact iff_of_false nofun fun ⟨p, slots, read, x, h, _⟩ => other p slots read h

/-- A locked design's map names a weave (R65, R67). -/
theorem lockedNaming_pos (s : State) (n : Nat) :
    0 < s.lockedNaming n ↔
      ∃ d, d < 16 ∧ s.locked d = true ∧ ∃ colour k x, colour < 16 ∧ tabGet (s.slots d colour) k none = some x ∧ x.weave = n := by
  simp only [State.lockedNaming, List.countP_pos_iff, List.mem_range, decide_eq_true_eq, naming_pos, State.slots]

/-- A FIXED section names a weave (R65, R67). -/
theorem fixedNaming_pos (s : State) (n : Nat) :
    0 < s.fixedNaming n ↔ ∃ x ∈ s.pcm.sections.toList, 0 < x.c ∧ x.mode = .fixed ∧ x.weave = n := by
  simp only [State.fixedNaming, List.countP_pos_iff, decide_eq_true_eq]

/-- When a weave is in use: by a locked design, by a FIXED section, by what a composition in flight has read (R65). -/
theorem weaveInUse_iff (s : State) (n : Nat) :
    s.weaveInUse n = true ↔
      (∃ d, d < 16 ∧ s.locked d = true ∧ ∃ colour k x, colour < 16 ∧ tabGet (s.slots d colour) k none = some x ∧ x.weave = n) ∨
      ((s.stu.weaving ≠ .stopped ∨ ∃ p r, s.pcm.staging = some ⟨p, .composing r⟩) ∧
        ∃ x ∈ s.pcm.sections.toList, 0 < x.c ∧ x.mode = .fixed ∧ x.weave = n) ∨
      ∃ p slots read x, s.pcm.staging = some ⟨p, .composing ⟨some slots, read⟩⟩ ∧ some x ∈ slots ∧ x.weave = n := by
  simp only [State.weaveInUse, Bool.or_eq_true, Bool.and_eq_true, decide_eq_true_eq, readNaming_iff, isComposing_iff, lockedNaming_pos,
    fixedNaming_pos, or_assoc]
  rw [and_comm (b := _ ∨ _)]

/-! ### WEAVE_WRITE, WEAVE_READ -/

/-- The columns of a row word at `ww` and above are cleared (R64). -/
theorem getLsbD_keepColumns {ww x : Nat} (hw : ww ≤ 32) (hx : x < 32) (row : BitVec 32) :
    (keepColumns ww row).getLsbD (31 - x) = (decide (x < ww) && row.getLsbD (31 - x)) := by
  have column : (31 - x < 32 - ww) ↔ ¬ x < ww := by omega
  have place : 31 - x < 32 := by omega
  rw [keepColumns, BitVec.getLsbD_and, BitVec.getLsbD_shiftLeft, BitVec.getLsbD_allOnes]
  by_cases h : x < ww
  · simp [h, column, place, show 31 - x - (32 - ww) < 32 by omega]
  · simp [h, column]

/-- The fields of WEAVE_WRITE within the ranges its first test asks for (R64). -/
def WeaveFields (id ww wh : Byte) (rows : List (BitVec 32)) : Prop :=
  id.toNat < 32 ∧ 1 ≤ ww.toNat ∧ ww.toNat ≤ 32 ∧ 1 ≤ wh.toNat ∧ wh.toNat ≤ 32 ∧ rows.length = wh.toNat

variable {id ww wh : Byte} {rows : List (BitVec 32)}

/-- A field out of its range refuses the write (R64). -/
theorem takeWeaveWrite_badField (h : ¬ WeaveFields id ww wh rows) : takeWeaveWrite id ww wh rows s = .refuse .badField s :=
  if_pos (by simp only [WeaveFields] at h; omega)

/-- With its fields in range a write asks whether the weave is in use (R64, R65). -/
theorem takeWeaveWrite_fields (h : WeaveFields id ww wh rows) :
    takeWeaveWrite id ww wh rows s =
      if s.weaveInUse id.toNat then .refuse .inUse s
      else
        .accept ([id, ww, wh] ++ u16 (s.slotsNaming id.toNat))
          (State.invalidate { s with
            wct.weaves := tabSet s.wct.weaves id.toNat { ww := ww.toNat, wh := wh.toNat, rows := rows.map (keepColumns ww.toNat) } }) :=
  if_neg (by simp only [WeaveFields] at h; omega)

/-- The rows a write leaves (R64). -/
theorem getD_keepColumns (hw : ww.toNat ≤ 32) (y : Nat) {x : Nat} (hx : x < 32) :
    ((rows.map (keepColumns ww.toNat)).getD y 0).getLsbD (31 - x) = (decide (x < ww.toNat) && (rows.getD y 0).getLsbD (31 - x)) := by
  by_cases hy : y < rows.length
  · rw [List.getD_eq_getElem _ _ (by simpa using hy), List.getD_eq_getElem _ _ hy, List.getElem_map, getLsbD_keepColumns hw hx]
  · rw [List.getD_eq_default _ _ (by simpa using hy), List.getD_eq_default _ _ (Nat.not_lt.1 hy)]
    simp

/-- With its id in range a read gives the weave and what uses it (R67). -/
theorem takeWeaveRead_range (h : id.toNat < 32) :
    takeWeaveRead id s =
      .accept (u8 (s.weave id.toNat).ww ++ u8 (s.weave id.toNat).wh ++ rowBytes (s.weave id.toNat).rows ++
        uFlag (s.weaveInUse id.toNat) ++ u8 (s.lockedNaming id.toNat) ++ u8 (s.fixedNaming id.toNat)) s :=
  if_neg (Nat.not_le.2 h)

end Sys2Proof.Machine.Program
end

section
/-! COLORMAP_WRITE and COLORMAP_READ (R71, R73), and the live edit of a map (R55, R70). -/

namespace Sys2Proof.Machine.Program

open Sys2Proof Sys2Proof.Machine

/-! ### The slots of a payload (R71) -/

/-- A slot entry with a meaning: absent, or with every field in its range (R71). -/
def SlotFields (r : RawSlot) : Prop :=
  r.present = 0 ∨ r.present = 1 ∧ r.weave.toNat < 32 ∧ r.xs.toNat < 32 ∧ r.ys.toNat < 32 ∧ r.invert.toNat ≤ 1

/-- The slot such an entry gives (R71). -/
def slotGiven (r : RawSlot) : Option Slot :=
  if r.present = 1 then some { weave := r.weave.toNat, xs := r.xs.toNat, ys := r.ys.toNat, invert := decide (r.invert = 1) } else none

/-- An entry with a meaning gives its slot (R71). -/
theorem slotOf_eq {r : RawSlot} (h : SlotFields r) : slotOf r = some (slotGiven r) := by
  unfold slotOf slotGiven
  rcases h with h | ⟨h, hw, hx, hy, hi⟩
  · simp [h]
  · simp [h, hw, hx, hy, flagOf_eq hi]

/-- An entry without a meaning gives none. -/
theorem slotOf_none {r : RawSlot} (h : ¬ SlotFields r) : slotOf r = none := by
  unfold slotOf
  rw [if_neg (show ¬ r.present = 0#8 from mt .inl h)]
  split
  · next fields =>
    obtain ⟨h1, hw, hx, hy⟩ := fields
    rw [flagOf_none fun hi => h (.inr ⟨h1, hw, hx, hy, hi⟩), Option.map_none]
  · rfl

/-- The four entries of a colour, each with a meaning (R71). -/
theorem slotsOf_eq {raw : Vector RawSlot 4} (h : ∀ r ∈ raw.toList, SlotFields r) : slotsOf raw = some (raw.map slotGiven) := by
  have entry (i : Nat) (hi : i < 4) : slotOf raw[i] = some (slotGiven raw[i]) := slotOf_eq (h _ (by simp))
  unfold slotsOf
  rw [entry 0, entry 1, entry 2, entry 3]
  simp only [Option.some.injEq]
  ext i hi
  interval_cases i <;> simp

/-- One entry without a meaning is enough to refuse the four. -/
theorem slotsOf_none {raw : Vector RawSlot 4} (h : ¬ ∀ r ∈ raw.toList, SlotFields r) : slotsOf raw = none := by
  unfold slotsOf
  split
  · next ha hb hc hd =>
    refine absurd (fun r hr => ?_) h
    obtain ⟨i, hi, rfl⟩ := Vector.mem_iff_getElem.1 (Vector.mem_toList_iff.1 hr)
    have some : (slotOf raw[i]).isSome := by interval_cases i <;> simp only [ha, hb, hc, hd, Option.isSome_some]
    refine not_not.1 fun hf => ?_
    rw [slotOf_none hf] at some
    cases some
  · rfl

/-- The size of the weave a slot names, and nothing for an absent slot (R73; log 11). -/
def sizeBytes (s : State) (o : Option Slot) : List Byte := o.elim [] fun x => u8 (s.weave x.weave).ww ++ u8 (s.weave x.weave).wh

/-- The sizes of the weaves that the present slots name (R73). -/
theorem flatMap_sizeBytes (s : State) (l : List (Option Slot)) :
    l.flatMap (sizeBytes s) = (l.filterMap id).flatMap fun x => u8 (s.weave x.weave).ww ++ u8 (s.weave x.weave).wh := by
  induction l with
  | nil => rfl
  | cons o rest ih =>
    cases o with
    | none => exact ih
    | some x => exact congrArg (_ ++ ·) ih

section Map

variable {s : State} {design colour : Byte} {raw : Vector RawSlot 4}

/-- The state with the slots of one colour of a design's map written, the reads taken before the write settled (R70, R71). -/
def mapWritten (s : State) (id colour : Nat) (v : Vector (Option Slot) 4) : State :=
  { s.settleReads id with wct := { s.wct with maps := tabSet s.wct.maps id (tabSet (s.map id) colour v) } }

/-- A code or a slot out of its range refuses the write (R71). -/
theorem takeColormapWrite_badField (h : ¬ ((design.toNat < 16 ∧ colour.toNat < 16) ∧ ∀ r ∈ raw.toList, SlotFields r)) :
    takeColormapWrite design colour raw s = .refuse .badField s := by
  unfold takeColormapWrite
  by_cases hr : ∀ r ∈ raw.toList, SlotFields r
  · rw [slotsOf_eq hr]
    exact if_pos (by rw [and_iff_left hr] at h; omega)
  · rw [slotsOf_none hr]

/-- With its fields in range a write asks for the record, then for the lock (R71, R55). -/
theorem takeColormapWrite_fields (h : (design.toNat < 16 ∧ colour.toNat < 16) ∧ ∀ r ∈ raw.toList, SlotFields r) :
    takeColormapWrite design colour raw s =
      if (s.design? design.toNat).isNone then .refuse .notFound s
      else if s.writeLocked design.toNat then .refuse .locked s
      else
        let t := mapWritten s design.toNat colour.toNat (raw.map slotGiven)
        .accept ((raw.map slotGiven).toList.flatMap slotPayload ++ u8 t.weavesInUse) (t.invalidateFor s design.toNat) := by
  obtain ⟨codes, fields⟩ := h
  have wct : (s.settleReads design.toNat).wct = s.wct := by simp
  unfold takeColormapWrite
  rw [slotsOf_eq fields]
  simp only [State.map, wct]
  rw [if_neg (by omega)]
  rfl

/-- With its codes in range a read asks for the record (R73). -/
theorem takeColormapRead_codes (h : design.toNat < 16 ∧ colour.toNat < 16) :
    takeColormapRead design colour s =
      if (s.design? design.toNat).isNone then .refuse .notFound s
      else
        let l := (s.slots design.toNat colour.toNat).toList
        .accept (l.flatMap slotPayload ++ l.flatMap (sizeBytes s)) s := by
  simp only [flatMap_sizeBytes]
  exact if_neg (by omega)

end Map

/-! ### The staging record under a live edit of a map -/

/-- A composition in flight goes on under a live edit (R55, R70). -/
theorem invalidateFor_composing {s before : State} {id : Nat} {p : Pick} {r : Reads} (hst : s.pcm.staging = some ⟨p, .composing r⟩) :
    s.invalidateFor before id = s := by
  rw [State.invalidateFor, s.invalidate_of_early fun st h => by cases hst.symm.trans h; exact ⟨r, rfl⟩, ite_self]

/-- A composition in flight goes on when its reads are settled (R60, R70). -/
theorem settleReads_goes_on {s : State} {p : Pick} {r : Reads} (hst : s.pcm.staging = some ⟨p, .composing r⟩) (id : Nat) :
    ∃ r', (s.settleReads id).pcm.staging = some ⟨p, .composing r'⟩ := by
  by_cases hid : s.pickDesign p = some id
  · exact ⟨_, by rw [settleReads_composing hst hid]⟩
  · exact ⟨r, by rw [settleReads_none fun q _ h => by cases hst.symm.trans h; exact hid]; exact hst⟩

/-- A design that is not the staging step's. -/
theorem stagingDesign_other {s : State} {id : Nat} (h : ∀ st, s.pcm.staging = some st → s.pickDesign st.pick ≠ some id) :
    s.stagingDesign id = false := by
  cases hst : s.pcm.staging with
  | none => simp [State.stagingDesign, hst]
  | some st => rw [stagingDesign_of_staging hst, decide_eq_false (h st hst)]

/-- A write to the weaves or the maps under a live edit does what the statements say of it (R55, R70, R71, R93). -/
theorem liveEdited_wct (s : State) (x : Wct) (id : Nat) :
    LiveEdited s { s with wct := x } (State.invalidateFor { s.settleReads id with wct := x } s id) id := by
  constructor
  · intro other
    rw [settleReads_none fun p r hst => other _ hst, State.invalidateFor, stagingDesign_other other]
    rfl
  · intro st hst woven
    refine ⟨fun late => ?_, fun r composing => ?_⟩
    · rw [settleReads_none fun p r h => by cases hst.symm.trans h; exact absurd rfl (late r), State.invalidateFor,
        if_pos (by rw [stagingDesign_of_staging hst]; exact decide_eq_true woven)]
      exact invalidated_invalidate _
    · obtain ⟨p, phase⟩ := st
      subst composing
      rw [settleReads_composing hst woven, invalidateFor_composing rfl]
      refine ⟨_, rfl, (readsTo_cases s p _ id r woven).imp_right ?_⟩
      rintro ⟨slots, m, rows⟩
      exact ⟨slots.trans (by cases r.slots <;> rfl), _, m, rows, fun d col hd hc => readCell_readRow hd hc⟩

end Sys2Proof.Machine.Program
end

section
/-! The commands of the weave and colour tables (chapter 4). -/

namespace Sys2Proof.Machine.Program

open Sys2Proof Sys2Proof.Machine

/-- A command whose event meets the staging invalidation list leaves the weaves and maps as its own effect made them. -/
theorem accepts_invalidate_wct {c : Instr} {owner : State → Taken} {s u : State} {d : Detail} {p : List Byte} (ho : ownerOf c = some owner)
    (hb : s.dlp.work = none) (hu : u.dlp = s.dlp)
    (h : owner (s.frameIn (frameOf c)) = ⟨(u.frameIn (frameOf c)).invalidate, some ⟨.accept, d, p⟩⟩) :
    ∃ t, Accepts c s d p t ∧ t.wct = u.wct ∧ Invalidated u t := by
  obtain ⟨t, accepted, invalidated⟩ := accepts_invalidate ho hb hu h
  refine ⟨t, accepted, ?_, invalidated⟩
  rw [Accepts, exec_command ho, takeCommand_free c owner ((busy_eq_false s).2 hb), h, Host.Outcome.next.injEq] at accepted
  exact (congrArg State.wct accepted).symm.trans (by simp)

/-- A live edit leaves the weaves and maps written. -/
theorem invalidateFor_wct (s before : State) (id : Nat) : (s.invalidateFor before id).wct = s.wct := by
  unfold State.invalidateFor
  split <;> simp

/-- A present design is barred from writes when it is locked and not live (R54, R55). -/
theorem writeLocked_iff_exists {s : State} {n : Nat} (h : (s.design? n).isSome) :
    s.writeLocked n = true ↔
      (∃ r ∈ s.pq.steps, r.design = n ∧ (r.state = .opened ∨ r.state = .closed)) ∧ ∃ d, s.design? n = some d ∧ d.liveEdit = false := by
  obtain ⟨d, hd⟩ := Option.isSome_iff_exists.1 h
  rw [writeLocked_iff hd]
  refine and_congr_right fun _ => ⟨fun hl => ⟨d, hd, hl⟩, fun ⟨e, he, hl⟩ => ?_⟩
  cases hd.symm.trans he
  exact hl

/-- A map written: accepted, with the weaves in use counted after the write and before a record is discarded, and the staging record as a live
edit leaves it (R71; log 11). -/
theorem accepts_colormapWrite {s : State} {design colour : Byte} {raw : Vector RawSlot 4} (hb : s.dlp.work = none)
    (hf : (design.toNat < 16 ∧ colour.toNat < 16) ∧ ∀ r ∈ raw.toList, SlotFields r) (hd : (s.design? design.toNat).isSome)
    (hl : ¬ s.writeLocked design.toNat = true) :
    let after : State :=
      { s with wct.maps := tabSet s.wct.maps design.toNat (tabSet (s.map design.toNat) colour.toNat (raw.map slotGiven)) }
    ∃ (t : State) (used : Nat),
      Accepts (.colormapWrite design colour raw) s .plain ((raw.toList.flatMap fun r => slotPayload (slotGiven r)) ++ u8 used) t ∧
      t.wct = after.wct ∧ LiveEdited s after t design.toNat ∧
      (∀ p r, s.pcm.staging = some ⟨p, .composing r⟩ → used = t.weavesInUse) ∧
      ((∀ p r, s.pcm.staging ≠ some ⟨p, .composing r⟩) → used = after.weavesInUse) := by
  intro after
  let f := s.frameIn (frameOf (.colormapWrite design colour raw))
  let u := mapWritten f design.toNat colour.toNat (raw.map slotGiven)
  have written : takeColormapWrite design colour raw f = _ := takeColormapWrite_fields (s := f) hf
  have dlp : u.dlp = f.dlp := by simp [u, mapWritten]
  have same : SameFrame (u.invalidateFor f design.toNat).dlp f.dlp := dlp ▸ sameFrame_invalidateFor u f design.toNat
  refine ⟨_, u.weavesInUse, accepts_of_owner rfl hb
    ((written.trans ((if_neg (present_of_isSome hd)).trans (if_neg hl))).trans ?_) same,
    invalidateFor_wct u f design.toNat, liveEdited_port (liveEdited_wct f _ design.toNat), fun p r hst => ?_, fun still => ?_⟩
  · rw [Vector.toList_map, List.flatMap_map]
    rfl
  · obtain ⟨r', hr⟩ := settleReads_goes_on (s := f) hst design.toNat
    rw [invalidateFor_composing (s := u) hr]
    rfl
  · simp only [u, mapWritten, settleReads_none (s := f) fun p r hst => absurd hst (still p r)]
    rfl

/-- Settles O48: when a weave is in use, clause by clause; the writes by their fields, the staging record by the invalidation list or the live
edit. -/
theorem weaveAndColourMapCommands : Obligations.WeaveAndColourMapCommands := by
  constructor
  · intro s id ww wh rows hb n c fields composing inUse
    have asks := fun (f : List Byte) (hf : fields) => takeWeaveWrite_fields (s := s.frameIn f) hf
    have used : s.weaveInUse n = true ↔ inUse := weaveInUse_iff s n
    refine ⟨used, fun hf => refuses_of_owner rfl hb (takeWeaveWrite_badField hf),
      fun hf hu => refuses_of_owner rfl hb ((asks _ hf).trans (if_pos (used.2 hu))), fun hf hu => ?_,
      fun h => refuses_of_owner rfl hb (if_pos h), fun h => accepts_plain rfl hb (takeWeaveRead_range h)⟩
    obtain ⟨t, accepted, wct, invalidated⟩ := accepts_invalidate_wct (c := c)
      (u := { s with wct.weaves := tabSet s.wct.weaves n { ww := ww.toNat, wh := wh.toNat, rows := rows.map (keepColumns ww.toNat) } })
      rfl hb rfl ((asks _ hf).trans (if_neg (mt used.1 hu)))
    obtain ⟨-, -, hw, -, -, length⟩ := hf
    exact ⟨_, t, accepted, wct, invalidated, (List.length_map ..).trans length, fun y x hx => getD_keepColumns hw y hx⟩
  · intro s design colour raw hb n write read codes fields barred slot bytes after here
    have asks := fun (f : List Byte) (hf : fields) => takeColormapWrite_fields (s := s.frameIn f) hf
    have reads := fun (f : List Byte) (hf : codes) => takeColormapRead_codes (s := s.frameIn f) hf
    have locked : (s.design? n).isSome → (s.writeLocked n = true ↔ barred) := writeLocked_iff_exists
    have payload : bytes = slotPayload := funext fun o => by cases o <;> rfl
    have sizes : (fun o : Option Slot => match o with
        | some x => u8 (s.weave x.weave).ww ++ u8 (s.weave x.weave).wh | none => []) = sizeBytes s :=
      funext fun o => by cases o <;> rfl
    refine ⟨fun hf => refuses_of_owner rfl hb (takeColormapWrite_badField hf),
      fun hf hn => refuses_of_owner rfl hb ((asks _ hf).trans (if_pos (Option.isNone_iff_eq_none.2 hn))),
      fun hf hd hl => refuses_of_owner rfl hb ((asks _ hf).trans ((if_neg (present_of_isSome hd)).trans (if_pos ((locked hd).2 hl)))),
      fun hf hd hl => ?_, fun hf => refuses_of_owner rfl hb (if_pos ?_),
      fun hf hn => refuses_of_owner rfl hb ((reads _ hf).trans (if_pos (Option.isNone_iff_eq_none.2 hn))),
      fun hf hd => ?_⟩
    · rw [payload]
      exact accepts_colormapWrite hb hf hd (mt (locked hd).1 hl)
    · simp only [codes] at hf
      omega
    · have answered : Accepts read s .plain (here.flatMap slotPayload ++ here.flatMap (sizeBytes s)) s :=
        accepts_plain rfl hb ((reads _ hf).trans (if_neg (present_of_isSome hd)))
      rwa [← payload, ← sizes] at answered

end Sys2Proof.Machine.Program
end

section
/-! The layout of the hooks: the sections, the modules of the chains and the fault table, and the operations that leave all three. -/

namespace Sys2Proof.Machine.Program

open Sys2Proof Sys2Proof.Machine

/-- What says where hooks are and what they serve: the sections, the modules of each chain, the entries of the fault table. -/
structure Layout where
  sections : Vector Section 8
  modules : Nat → Nat
  entries : List FaultEntry

/-- The layout of a state. -/
def layout (s : State) : Layout := ⟨s.pcm.sections, fun c => (s.chain c).modules, s.hft.entries⟩

variable (s : State)

/-- States with the same sections, chains and fault table have the same layout. -/
theorem layout_congr {s t : State} (pcm : t.pcm = s.pcm) (hcu : t.hcu = s.hcu) (hft : t.hft = s.hft) : layout t = layout s := by
  simp only [layout, State.chain, pcm, hcu, hft]

theorem layout_of_queueMoved {s t : State} (h : QueueMoved s t) : layout t = layout s := by
  obtain ⟨_, _, _, _, _, _, _, _, _, rfl⟩ := h
  rfl

theorem layout_of_fingerMoved {s t : State} (h : FingerMoved s t) : layout t = layout s := by
  obtain ⟨_, _, _, _, _, _, _, _, _, rfl, -, -⟩ := h
  rfl

/-! ### Messages, sources, waits, steps of the queue -/

@[simp] theorem layout_raise (f : EventFlag) : layout (s.raise f) = layout s := rfl

@[simp] theorem layout_answer (k : Byte) (o : ReplyOutcome) (d : Detail) (p : List Byte) : layout (s.answer k o d p) = layout s := rfl

@[simp] theorem layout_frameIn (l : List Byte) : layout (s.frameIn l) = layout s := rfl

@[simp] theorem layout_messageTaken : layout s.messageTaken = layout s := rfl

@[simp] theorem layout_recordStop (r : LastStop) : layout (s.recordStop r) = layout s := rfl

@[simp] theorem layout_send (m : LoomMessage) : layout (s.send m) = layout s := layout_congr (by simp) (by simp) (by simp)

@[simp] theorem layout_sendState (b : Bool) : layout (s.sendState b) = layout s := layout_send s _

@[simp] theorem layout_refuseMessage (k : Byte) (why : Reason) : layout (s.refuseMessage k why) = layout s := layout_send s _

@[simp] theorem layout_requestStop (c : Cause) : layout (s.requestStop c) = layout s := layout_send s _

@[simp] theorem layout_occur (x : SyncSource) : layout (s.occur x) = layout s := layout_of_queueMoved (queueMoved_occur s x)

@[simp] theorem layout_failWait (d : Detail) : layout (s.failWait d) = layout s := layout_congr (by simp) (by simp) (by simp)

@[simp] theorem layout_returnStep (q : BitVec 16) : layout (s.returnStep q) = layout s := layout_congr (by simp) (by simp) (by simp)

@[simp] theorem layout_closeOld (old : Option Pick) : layout (s.closeOld old) = layout s :=
  layout_of_queueMoved (queueMoved_closeOld s old)

/-! ### The weft finger -/

@[simp] theorem layout_resolve (w : Nat) : layout (s.resolve w).2 = layout s := layout_of_fingerMoved (fingerMoved_resolve s w)

@[simp] theorem layout_releaseFinger : layout s.releaseFinger = layout s := layout_of_fingerMoved (fingerMoved_releaseFinger s)

@[simp] theorem layout_writeChannel (due : Due) (c : Nat) : layout (s.writeChannel due c) = layout s := by
  cases due <;> rfl

@[simp] theorem layout_engage : layout s.engage = layout s := layout_of_fingerMoved (fingerMoved_engage s)

@[simp] theorem layout_waitFor (c : Nat) : layout (s.waitFor c) = layout s := layout_of_fingerMoved (fingerMoved_waitFor s c)

@[simp] theorem layout_weftRelease : layout s.weftRelease = layout s := layout_congr (by simp) (by simp) (by simp)

@[simp] theorem layout_weftSelect : layout s.weftSelect = layout s := by
  unfold State.weftSelect
  dsimp only
  split
  · split <;> rfl
  · split
    · split
      · exact (layout_writeChannel _ _ _).trans (layout_resolve _ _)
      · simp
    · simp
    · simp

@[simp] theorem layout_countRelease : layout s.countRelease = layout s := layout_congr (by simp) (by simp) (by simp)

@[simp] theorem layout_markCarried : layout s.markCarried = layout s := layout_congr (by simp) (by simp) (by simp)

@[simp] theorem layout_carryEngagement : layout s.carryEngagement = layout s := by
  unfold State.carryEngagement
  dsimp only
  split
  · have told : layout (State.requestStop { s.raise .weftLate with evs.weft.weftLate := bump s.evs.weft.weftLate } .weftLate) = layout s :=
      layout_requestStop _ _
    split
    · exact (layout_markCarried _).trans ((layout_weftSelect _).trans told)
    · exact (layout_markCarried _).trans told
    · exact told
  · rfl

@[simp] theorem layout_engageDue : layout s.engageDue = layout s := by
  unfold State.engageDue
  split <;> simp

@[simp] theorem layout_stopFinger : layout s.stopFinger = layout s := rfl

@[simp] theorem layout_findFinger : layout s.findFinger = layout s := rfl

@[simp] theorem layout_runFinger : layout s.runFinger = layout s := layout_congr (by simp) (by simp) (by simp)

theorem layout_foldl {α : Type} {f : State → α → State} (h : ∀ s x, layout (f s x) = layout s) (l : List α) :
    layout (l.foldl f s) = layout s := by
  induction l generalizing s with
  | nil => rfl
  | cons x rest ih => exact (ih (f s x)).trans (h s x)

@[simp] theorem layout_channelOut (c : Nat) : layout (s.channelOut c) = layout s := by
  have entries (t : State) (w : Nat) : layout (State.entryOut c t w) = layout t := layout_congr (by simp) (by simp) (by simp)
  unfold State.channelOut
  dsimp only
  split
  · rw [layout_requestStop, layout_raise]
    exact layout_foldl _ entries _
  · exact layout_foldl _ entries _

@[simp] theorem layout_channelReady (c : Nat) : layout (s.channelReady c) = layout s := rfl

/-! ### The chains -/

/-- A table of chains mapped by what keeps their modules. -/
theorem layout_mapChains {s t : State} {f : Nat → Chain → Chain} (keeps : ∀ i c, (f i c).modules = c.modules)
    (sections : t.pcm.sections = s.pcm.sections) (chains : t.hcu.chains = tabMap f s.hcu.chains)
    (entries : t.hft.entries = s.hft.entries) : layout t = layout s := by
  have modules (c : Nat) : (t.chain c).modules = (s.chain c).modules := by
    rw [State.chain, State.chain, chains]
    by_cases h : c < 4
    · rw [tabGet_tabMap f _ c h _ .powerOn, keeps]
    · simp [tabGet, h]
  simp only [layout, sections, modules, entries]

/-- A chain's record changed by what keeps its modules. -/
theorem layout_updateChain {i : Nat} {f : Chain → Chain} (keeps : (f (s.chain i)).modules = (s.chain i).modules) :
    layout (s.updateChain i f) = layout s := by
  have modules (c : Nat) : ((s.updateChain i f).chain c).modules = (s.chain c).modules := by
    have chain : (s.updateChain i f).chain c = if i = c ∧ i < 4 then f (s.chain i) else s.chain c := tabGet_tabSet ..
    rw [chain]
    split
    · next h => rw [keeps, h.1]
    · rfl
  simp only [layout, modules]
  rfl

@[simp] theorem layout_isolate (c : Nat) : layout (s.isolate c) = layout s :=
  layout_updateChain s (i := c) (f := fun x => { x with state := .isolated, image := 0#3072, shift := none }) rfl

theorem dropTransfer_modules (c : Chain) : c.dropTransfer.modules = c.modules := by
  unfold Chain.dropTransfer
  split <;> rfl

theorem strobeTransfer_modules (c : Chain) : c.strobeTransfer.modules = c.modules := by
  unfold Chain.strobeTransfer
  split <;> rfl

theorem strobeRepresentation_modules (c : Chain) : c.strobeRepresentation.modules = c.modules := by
  unfold Chain.strobeRepresentation
  split <;> rfl

theorem pulseClear_modules (c : Chain) : c.pulseClear.modules = c.modules := by
  unfold Chain.pulseClear
  split <;> rfl

@[simp] theorem layout_shiftAll (work : ShiftWork) (lift : Lift) : layout (s.shiftAll work lift) = layout s :=
  layout_mapChains (f := fun i c => if c.state = .active then c.begin work (s.driveShare none lift i) else c)
    (fun i c => by split <;> rfl) rfl rfl rfl

/-! ### The staging record -/

@[simp] theorem layout_readAhead (n : Nat) : layout (s.readAhead n) = layout s := by
  unfold State.readAhead
  split <;> rfl

@[simp] theorem layout_settleReads (id : Nat) : layout (s.settleReads id) = layout s := by
  unfold State.settleReads
  split
  · split
    · exact layout_readAhead s _
    · rfl
  · rfl

@[simp] theorem layout_beginComposition : layout s.beginComposition = layout s := by
  rcases beginComposition_cases s with ⟨seq, starved, p, begins⟩ | ⟨seq, starved, begins⟩ | none
  · rw [begins, layout_of_fingerMoved (fingerMoved_checkChannel _)]
    exact layout_of_queueMoved (s := s) (t := entered s seq starved) (queueMoved_entered s starved)
  · rw [begins]
    exact layout_of_queueMoved (queueMoved_entered s starved)
  · rw [beginComposition_of_none none]
    rfl

@[simp] theorem layout_finishTransfer : layout s.finishTransfer = layout s := by
  unfold State.finishTransfer
  split
  · split <;> rfl
  · rfl

@[simp] theorem layout_tryTransfer : layout s.tryTransfer = layout s := by
  unfold State.tryTransfer
  split
  · split
    · exact (layout_finishTransfer _).trans (layout_shiftAll s .transfer _)
    · rfl
  · rfl

@[simp] theorem layout_discardStaging : layout s.discardStaging = layout s := by
  unfold State.discardStaging
  split
  · exact (layout_returnStep _ _).trans (layout_mapChains (fun _ => dropTransfer_modules) rfl rfl rfl)
  · rfl

@[simp] theorem layout_invalidate : layout s.invalidate = layout s := by
  unfold State.invalidate
  split
  · rfl
  · rfl
  · split <;> simp

@[simp] theorem layout_invalidateFor (before : State) (id : Nat) : layout (s.invalidateFor before id) = layout s := by
  unfold State.invalidateFor
  split <;> simp

@[simp] theorem layout_abandonWork : layout s.abandonWork = layout s := by
  unfold State.abandonWork
  split <;> simp

/-! ### Stops, RUN, FIND, pick back -/

@[simp] theorem layout_enterStopped : layout s.enterStopped = layout s := layout_occur _ _

@[simp] theorem layout_immediateStop : layout s.immediateStop = layout s :=
  (layout_enterStopped _).trans ((layout_stopFinger _).trans (layout_discardStaging _))

@[simp] theorem layout_applyStop (mode : StopMode) : layout (s.applyStop mode) = layout s := by
  unfold State.applyStop
  split
  · simp
  · exact layout_enterStopped _
  · simp
  · rfl

@[simp] theorem layout_hardStop (cause : Cause) (notify : Bool) : layout (s.hardStop cause notify) = layout s := by
  have stopped : layout (match s.stu.weaving with
      | .running => s.immediateStop | .stopped => s.discardStaging | .finding => s.enterStopped) = layout s := by
    split <;> simp
  unfold State.hardStop
  dsimp only
  rw [layout_recordStop]
  split
  · exact (layout_send _ _).trans stopped
  · exact stopped

@[simp] theorem layout_takeRun : layout s.takeRun = layout s := by
  unfold State.takeRun
  split
  · simp
  · exact (layout_send _ _).trans (layout_runFinger s)

@[simp] theorem layout_takeStop (cause channel : Byte) : layout (s.takeStop cause channel) = layout s := by
  unfold State.takeStop
  simp

@[simp] theorem layout_takeFind : layout s.takeFind = layout s := by
  unfold State.takeFind
  split
  · exact (layout_sendState _ _).trans ((layout_findFinger _).trans (layout_discardStaging s))
  · simp

@[simp] theorem layout_takeReleaseWait : layout s.takeReleaseWait = layout s :=
  (layout_sendState _ _).trans (layout_failWait _ _)

@[simp] theorem layout_takePackageOut (c : Byte) : layout (s.takePackageOut c) = layout s := by
  unfold State.takePackageOut
  split <;> simp

@[simp] theorem layout_takePackageReady (c : Byte) : layout (s.takePackageReady c) = layout s := by
  unfold State.takePackageReady
  split <;> simp

@[simp] theorem layout_answerRepresentation (r : Representation) : layout (s.answerRepresentation r) = layout s := by
  unfold State.answerRepresentation
  split <;> simp

@[simp] theorem layout_finishRepresentation : layout s.finishRepresentation = layout s := by
  unfold State.finishRepresentation
  split
  · rfl
  · split
    · rfl
    · exact (layout_answerRepresentation _ _).trans (layout_mapChains (fun _ => strobeRepresentation_modules) rfl rfl rfl)

@[simp] theorem layout_stepBack (p : Pick) : layout (s.stepBack p) = layout s := by
  unfold State.stepBack
  dsimp only
  rw [layout_invalidate]
  split
  · exact layout_returnStep _ _
  · rfl

@[simp] theorem layout_beginRepresentation (p : Pick) : layout (s.beginRepresentation p) = layout s := by
  unfold State.beginRepresentation
  rw [layout_finishRepresentation]
  exact layout_shiftAll s .representation p.lift

@[simp] theorem layout_takePickBack : layout s.takePickBack = layout s := by
  unfold State.takePickBack
  split <;> simp

/-! ### Probes and presentations -/

@[simp] theorem layout_answerProbe (p : Probe) : layout (s.answerProbe p) = layout s := layout_answer s _ _ _ _

@[simp] theorem layout_beginPresentation (c : Fin 4) (p : Pick) : layout (s.beginPresentation c p) = layout s :=
  layout_updateChain s (i := c.val) (f := fun x => x.begin .presentation (s.driveShare (some c) p.lift c.val)) rfl

@[simp] theorem layout_endCount (p : Probe) (marker : Option Nat) : layout (s.endCount p marker) = layout s := by
  have counted : layout (s.updateChain p.chain.val fun x => { x with probe := probeResult marker, shift := none }) = layout s :=
    layout_updateChain s rfl
  unfold State.endCount
  dsimp only
  split
  · split
    · rw [layout_answerProbe, layout_updateChain _ rfl, counted]
    · rw [layout_beginPresentation, counted]
  · rw [layout_answerProbe, layout_updateChain _ rfl, counted]

@[simp] theorem layout_finishPresentation (p : Probe) (drive : Share) : layout (s.finishPresentation p drive) = layout s := by
  unfold State.finishPresentation
  split
  · split
    · rw [layout_answerProbe, layout_updateChain _ rfl]
    · simp
  · rw [layout_answerProbe, layout_updateChain _ rfl]

end Sys2Proof.Machine.Program
end

section
/-! The substitutes stay free as entries of the fault table come, change and go: learning, aging, soft reset (R143 to R150). -/

namespace Sys2Proof.Machine.Program

open Sys2Proof Sys2Proof.Machine

variable {s t : State}

/-! ### The invariant by layout -/

/-- A layout with another fault table keeps the sections and the hooks that exist. -/
theorem section_hookExists_of_layout {l : List FaultEntry} (ht : layout t = { layout s with entries := l }) :
    t.section = s.section ∧ t.hookExists = s.hookExists ∧ t.hft.entries = l := by
  obtain ⟨sections, modules, entries⟩ := (Layout.mk.injEq ..).mp ht
  refine ⟨funext fun i => ?_, funext fun h => ?_, entries⟩
  · rw [State.section, sections]
    rfl
  · have hooks (c : Nat) : (t.chain c).hooks = (s.chain c).hooks := congrArg (· * Config.hooksPerModule) (congrFun modules c)
    simp only [State.hookExists, hooks]

/-- No entry has a hook for its key. -/
theorem find_eq_none_iff (x : Hft) (h : Nat) : x.find h = none ↔ ∀ e ∈ x.entries, e.hook ≠ h := by
  simp [Hft.find]

/-- With the sections and the chains as they were, what is asked of the new table's substitutes. -/
theorem substitutesFree_of_entries {l : List FaultEntry} (free : SubstitutesFree s) (ht : layout t = { layout s with entries := l })
    (sorted : l.Pairwise fun x y => x.hook < y.hook)
    (spares : ∀ e ∈ l, ∀ x, e.spare = some x →
      s.hookExists x = true ∧ (∀ y ∈ l, y.hook ≠ x) ∧ (∀ i, i < 8 → 0 < (s.section i).c → (s.section i).covers x = false) ∧
        ∀ e' ∈ l, e'.spare = some x → e' = e) : SubstitutesFree t := by
  obtain ⟨apart, -, -⟩ := free
  obtain ⟨sections, hooks, entries⟩ := section_hookExists_of_layout ht
  simp only [SubstitutesFree, SectionsApart, sections, hooks, find_eq_none_iff, entries]
  exact ⟨apart, sorted, spares⟩

/-- The invariant rests on the layout alone. -/
theorem substitutesFree_of_layout (free : SubstitutesFree s) (ht : layout t = layout s) : SubstitutesFree t := by
  obtain ⟨-, sorted, spares⟩ := id free
  refine substitutesFree_of_entries free (l := s.hft.entries) ht sorted fun e he x hx => ?_
  obtain ⟨exists', key, rest⟩ := spares e he x hx
  exact ⟨exists', (find_eq_none_iff _ _).1 key, rest⟩

/-! ### Entries that go and entries that are put -/

/-- In a table ordered by key, entries of one key are one. -/
theorem entry_eq_of_hook {l : List FaultEntry} (sorted : l.Pairwise fun x y => x.hook < y.hook) {e e' : FaultEntry} (he : e ∈ l)
    (he' : e' ∈ l) (key : e.hook = e'.hook) : e = e' :=
  List.inj_on_of_nodup_map (List.pairwise_map.2 (sorted.imp Nat.ne_of_lt)) he he' key

/-- A table of fewer keys whose substitutes are those of entries it keeps. -/
theorem substitutesFree_of_fewer {l : List FaultEntry} (free : SubstitutesFree s) (ht : layout t = { layout s with entries := l })
    (sorted : l.Pairwise fun x y => x.hook < y.hook)
    (fewer : ∀ e ∈ l, ∃ old ∈ s.hft.entries, old.hook = e.hook ∧ (e.spare.isSome → e = old)) : SubstitutesFree t := by
  obtain ⟨-, -, spares⟩ := id free
  have kept {e : FaultEntry} {x : Nat} (he : e ∈ l) (hx : e.spare = some x) : e ∈ s.hft.entries := by
    obtain ⟨old, hold, -, same⟩ := fewer e he
    rwa [same (by simp [hx])]
  refine substitutesFree_of_entries free ht sorted fun e he x hx => ?_
  obtain ⟨exists', key, uncovered, alone⟩ := spares e (kept he hx) x hx
  refine ⟨exists', fun y hy => ?_, uncovered, fun e' he' hx' => alone e' (kept he' hx') hx'⟩
  obtain ⟨old, hold, same, -⟩ := fewer y hy
  rw [← same]
  exact (find_eq_none_iff _ _).1 key old hold

/-- The entry put stands in the table. -/
theorem mem_putEntry_self (e : FaultEntry) (l : List FaultEntry) : e ∈ putEntry e l := by
  induction l with
  | nil => simp [putEntry]
  | cons y rest ih =>
    rw [putEntry]
    split
    · simp
    · split
      · simp
      · exact List.mem_cons_of_mem _ ih

/-- The entries after one is put: the new one, and those of other keys. -/
theorem mem_putEntry_of_sorted {e x : FaultEntry} {l : List FaultEntry} (sorted : l.Pairwise fun x y => x.hook < y.hook)
    (hx : x ∈ putEntry e l) : x = e ∨ x ∈ l ∧ x.hook ≠ e.hook := by
  by_cases key : x.hook = e.hook
  · exact .inl (entry_eq_of_hook (putEntry_sorted e sorted) hx (mem_putEntry_self e l) key)
  · exact (mem_putEntry hx).imp_right (⟨·, key⟩)

/-- An entry put: its key is no substitute of another entry, and its substitute, where it has one, is free for it (R150). -/
theorem substitutesFree_of_put {e : FaultEntry} (free : SubstitutesFree s)
    (ht : layout t = { layout s with entries := putEntry e s.hft.entries })
    (key : ∀ y ∈ s.hft.entries, y.hook ≠ e.hook → y.spare ≠ some e.hook)
    (spare : ∀ x, e.spare = some x → x ≠ e.hook ∧ s.hookExists x = true ∧
      (∀ i, i < 8 → 0 < (s.section i).c → (s.section i).covers x = false) ∧
      ∀ y ∈ s.hft.entries, y.hook ≠ x ∧ (y.hook ≠ e.hook → y.spare ≠ some x)) : SubstitutesFree t := by
  obtain ⟨-, sorted, spares⟩ := id free
  refine substitutesFree_of_entries free ht (putEntry_sorted e sorted) fun y hy x hx => ?_
  rcases mem_putEntry_of_sorted sorted hy with rfl | ⟨old, other⟩
  · obtain ⟨apart, exists', uncovered, others⟩ := spare x hx
    refine ⟨exists', fun z hz => ?_, uncovered, fun z hz hzx => ?_⟩
    · rcases mem_putEntry_of_sorted sorted hz with rfl | ⟨hz, -⟩
      · exact apart.symm
      · exact (others z hz).1
    · rcases mem_putEntry_of_sorted sorted hz with rfl | ⟨hz, other⟩
      · rfl
      · exact absurd hzx ((others z hz).2 other)
  · obtain ⟨exists', unkeyed, uncovered, alone⟩ := spares y old x hx
    refine ⟨exists', fun z hz => ?_, uncovered, fun z hz hzx => ?_⟩
    · rcases mem_putEntry_of_sorted sorted hz with rfl | ⟨hz, -⟩
      · rintro rfl
        exact key y old other hx
      · exact (find_eq_none_iff _ _).1 unkeyed z hz
    · rcases mem_putEntry_of_sorted sorted hz with rfl | ⟨hz, -⟩
      · obtain ⟨-, -, -, others⟩ := spare x hzx
        exact absurd hx ((others y old).2 other)
      · exact alone z hz hzx

/-! ### Learning (R146 to R148) -/

/-- A LEARNED entry put for a hook that has an entry, or is no substitute (R146). -/
theorem substitutesFree_of_learned {h count : Nat} {age sent : Bool} {sense : Option Sense} (free : SubstitutesFree s)
    (ht : layout t = { layout s with entries := putEntry ⟨h, .learned age sent, count, sense⟩ s.hft.entries })
    (known : (s.hft.find h).isSome ∨ (s.hft.substituted h).isNone) : SubstitutesFree t := by
  refine substitutesFree_of_put free ht (fun y hy other hx => ?_) (fun x hx => by cases hx)
  obtain ⟨-, -, spares⟩ := free
  obtain ⟨-, unkeyed, -⟩ := spares y hy h hx
  rcases known with known | known
  · simp [unkeyed] at known
  · rw [Option.isNone_iff_eq_none, Hft.substituted, List.find?_eq_none] at known
    exact known y hy (decide_eq_true hx)

theorem substitutesFree_askStop (free : SubstitutesFree s) (h : Nat) : SubstitutesFree (s.askStop h) := by
  unfold State.askStop
  split
  · next _ age count sense found =>
    split
    · refine substitutesFree_of_learned (age := age) (sent := true) (count := count) (sense := sense) free ?_ (.inl (by rw [found]; rfl))
      exact congrArg (fun x : Layout => { x with entries := putEntry ⟨h, .learned age true, count, sense⟩ s.hft.entries })
        (layout_requestStop s .hookFault)
    · exact free
  · exact free

theorem substitutesFree_learn {h : Nat} (free : SubstitutesFree s) (sense : Sense) (unnamed : (s.hft.substituted h).isNone) :
    SubstitutesFree (s.learn h sense) := by
  have learned : SubstitutesFree { s with hft.entries := putEntry ⟨h, .learned true false, 1, some sense⟩ s.hft.entries } :=
    substitutesFree_of_learned free rfl (.inr unnamed)
  unfold State.learn
  refine substitutesFree_askStop (substitutesFree_of_layout learned ?_) h
  rfl

theorem substitutesFree_reportMismatch (free : SubstitutesFree s) (r : Nat × Sense) : SubstitutesFree (s.reportMismatch r) := by
  unfold State.reportMismatch
  split
  · next _ age sent count sense found =>
    have refreshed : SubstitutesFree
        { s with hft.entries := putEntry ⟨r.1, .learned true sent, min (count + 1) 255, some r.2⟩ s.hft.entries } :=
      substitutesFree_of_learned free rfl (.inl (by rw [found]; rfl))
    exact substitutesFree_askStop refreshed _
  · exact free
  · split
    · exact substitutesFree_of_layout free rfl
    · next unnamed =>
      split
      · exact substitutesFree_learn free r.2 (by simpa using unnamed)
      · exact substitutesFree_of_layout free rfl

theorem substitutesFree_compareEcho (free : SubstitutesFree s) (c : Nat) (sensed : Share) : SubstitutesFree (s.compareEcho c sensed) :=
  List.foldlRecOn _ _ (substitutesFree_of_layout free rfl) fun _ free r _ => substitutesFree_reportMismatch free r

/-! ### Aging and soft reset (R149, R178) -/

/-- An aging pass leaves the keys of entries, and entries with a substitute as they are (R149). -/
theorem age_cases {e aged : FaultEntry} (h : e.age = some aged) : e.hook = aged.hook ∧ (aged.spare.isSome → aged = e) := by
  obtain ⟨hook, kind, count, sense⟩ := e
  cases kind with
  | learned age sent => cases age <;> cases h; exact ⟨rfl, nofun⟩
  | fixed action => cases h; exact ⟨rfl, fun _ => rfl⟩

theorem substitutesFree_agingPass (free : SubstitutesFree s) : SubstitutesFree s.agingPass := by
  obtain ⟨-, sorted, -⟩ := id free
  refine substitutesFree_of_fewer free (l := s.hft.entries.filterMap FaultEntry.age) rfl ?_ fun e he => ?_
  · refine List.pairwise_filterMap.2 (sorted.imp fun {x y} less x' hx y' hy => ?_)
    rwa [← (age_cases hx).1, ← (age_cases hy).1]
  · obtain ⟨old, hold, aged⟩ := List.mem_filterMap.1 he
    exact ⟨old, hold, age_cases aged⟩

theorem substitutesFree_countAging (free : SubstitutesFree s) : SubstitutesFree s.countAging := by
  unfold State.countAging
  split
  · exact substitutesFree_agingPass free
  · exact substitutesFree_of_layout free rfl

/-- A table with entries taken out of it. -/
theorem substitutesFree_of_filter {keep : FaultEntry → Bool} (free : SubstitutesFree s)
    (ht : layout t = { layout s with entries := s.hft.entries.filter keep }) : SubstitutesFree t := by
  obtain ⟨-, sorted, -⟩ := id free
  exact substitutesFree_of_fewer free ht (sorted.filter _) fun e he => ⟨e, List.mem_of_mem_filter he, rfl, fun _ => rfl⟩

theorem substitutesFree_softReset (free : SubstitutesFree s) : SubstitutesFree s.softReset := by
  have chains : layout { s.softReset with hft.entries := s.hft.entries } = layout s :=
    layout_mapChains (f := fun _ c => c.softReset) (fun _ _ => rfl) rfl rfl rfl
  refine substitutesFree_of_filter (keep := fun e => !e.isLearned) free ?_
  simp only [layout, Layout.mk.injEq] at chains ⊢
  exact ⟨rfl, chains.2.1, rfl⟩

/-- Power-on puts no hook in a section and no entry in the table (R97, R155). -/
theorem substitutesFree_reset : SubstitutesFree State.reset := by
  have unused : ∀ i, i < 8 → State.reset.section i = .powerOn := by decide +kernel
  refine ⟨⟨fun i j hi hj _ => ?_, fun i hi hc => ?_⟩, List.Pairwise.nil, nofun⟩
  · rw [unused i hi, unused j hj]
    rfl
  · rw [unused i hi] at hc
    cases hc

/-! ### The latch (R115, R136 to R138) -/

theorem substitutesFree_weaveShed (free : SubstitutesFree s) (old : Option Pick) : SubstitutesFree (s.weaveShed old) := by
  cases old with
  | none => exact free
  | some p =>
    refine substitutesFree_countAging (substitutesFree_of_layout free ?_)
    have joins : layout (s.joinRing p) = layout s := layout_congr (by simp) (by simp) (by simp)
    exact joins

theorem substitutesFree_pickLatch (free : SubstitutesFree s) (p : Pick) (runs : Runs) : SubstitutesFree (s.pickLatch p runs) := by
  have strobes : layout (strobed s p runs) = layout s := by
    obtain ⟨-, hcu, -⟩ := strobed_blocks s p runs
    exact layout_mapChains (fun _ => strobeTransfer_modules) (by simp [strobed]) (by rw [hcu]) (by simp [strobed])
  have woven := substitutesFree_weaveShed (substitutesFree_of_layout free strobes) s.ph.shed
  rw [pickLatch_eq]
  refine substitutesFree_of_layout woven ?_
  rw [layout_occur, layout_closeOld]
  rfl

theorem substitutesFree_levelShed (free : SubstitutesFree s) : SubstitutesFree s.levelShed := by
  have levels : layout (State.levelFloats { s with hcu.chains := tabMap (fun _ (c : Chain) => c.pulseClear) s.hcu.chains }) = layout s :=
    layout_mapChains (fun _ => pulseClear_modules) rfl rfl rfl
  have woven := substitutesFree_weaveShed (substitutesFree_of_layout free levels) s.ph.shed
  refine substitutesFree_of_layout woven ?_
  unfold State.levelShed
  rw [layout_hardStop, layout_raise, layout_closeOld]
  rfl

@[simp] theorem layout_freely {α : Type} (s : State) (parts : List α) : layout (s.freely parts).2 = layout s := by
  unfold State.freely
  split <;> rfl

@[simp] theorem layout_patternLate (s : State) (early : BitVec 4) : layout (s.patternLate early) = layout s := by
  have isolated (u : State) (l : List Nat) : layout (l.foldl State.isolate u.discardStaging) = layout u :=
    (layout_foldl _ (fun _ _ => layout_isolate _ _) l).trans (layout_discardStaging u)
  unfold State.patternLate
  dsimp only
  split
  · rw [layout_hardStop, isolated]
    rfl
  · rw [layout_foldl _ (fun _ _ => layout_hardStop _ _ _), layout_freely, layout_raise, isolated]
    rfl

theorem substitutesFree_latch (free : SubstitutesFree s) (early : BitVec 4) : SubstitutesFree (s.latch early) := by
  unfold State.latch
  split
  · split
    · exact substitutesFree_levelShed free
    · exact free
  · exact substitutesFree_pickLatch free _ _
  · exact substitutesFree_of_layout free (layout_patternLate s early)

/-! ### A forward step (R5) -/

theorem substitutesFree_deliver (free : SubstitutesFree s) (early : BitVec 4) (e : AngleEvent) : SubstitutesFree (s.deliver early e) := by
  cases e with
  | compose =>
    refine substitutesFree_of_layout free ?_
    show layout s.compose = layout s
    unfold State.compose
    split
    · split <;> simp
    · rfl
  | transfer => exact substitutesFree_of_layout free (layout_tryTransfer _)
  | latch => exact substitutesFree_latch free early
  | weftRelease => exact substitutesFree_of_layout free (layout_weftRelease s)
  | weftSelect => exact substitutesFree_of_layout free (layout_weftSelect s)

theorem substitutesFree_takePart (free : SubstitutesFree s) (early : BitVec 4) (part : StepPart) :
    SubstitutesFree (s.takePart early part) := by
  cases part with
  | angle e =>
    cases running : s.stu.weaving <;> simp only [State.takePart, running]
    · exact free
    · exact substitutesFree_deliver free early e
    · exact free
  | engagement => exact substitutesFree_of_layout free (layout_engageDue s)

theorem substitutesFree_forwardStep (free : SubstitutesFree s) (early : BitVec 4) : SubstitutesFree (s.forwardStep early) := by
  have moved : layout (stepped s) = layout s := layout_countRelease _
  refine List.foldlRecOn _ _ (substitutesFree_of_layout free ?_) fun _ free part _ => substitutesFree_takePart free early part
  rw [layout_freely]
  exact moved

/-! ### The completion of a chain's shift (R133 to R135) -/

theorem substitutesFree_shiftPassed (free : SubstitutesFree s) (c : Fin 4) (x : Shift) (sensed : Share) :
    SubstitutesFree (s.shiftPassed c x sensed) := by
  have completed : layout (s.updateChain c.val Chain.complete) = layout s := layout_updateChain s rfl
  have compared := substitutesFree_compareEcho (substitutesFree_of_layout free completed) c.val sensed
  refine substitutesFree_of_layout compared ?_
  unfold State.shiftPassed
  dsimp only
  split
  · exact layout_finishTransfer _
  · exact layout_finishRepresentation _
  · split
    · exact layout_finishPresentation _ _ _
    · rfl
  · rfl

@[simp] theorem layout_shiftFailed (s : State) (c : Fin 4) (x : Shift) : layout (s.shiftFailed c x) = layout s := by
  unfold State.shiftFailed
  dsimp only
  split
  · simp
  · exact (layout_finishRepresentation _).trans (layout_isolate s c.val)
  · split <;> simp
  · simp

end Sys2Proof.Machine.Program
end

section
/-! The tests of SECTION_WRITE and CHAIN_CONFIG hook by hook (R75, R129): sections that share a hook, hooks that do not exist, substitutes. -/

namespace Sys2Proof.Machine.Program

open Sys2Proof Sys2Proof.Machine

variable {s : State}

/-- The hooks a section covers. -/
theorem covers_iff (x : Section) (h : Nat) : x.covers h = true ↔ x.f ≤ h ∧ h < x.f + x.c := by
  simp [Section.covers]

/-- Two sections of count above 0 overlap where they cover a common hook. -/
theorem overlaps_iff (x y : Section) : x.overlaps y = true ↔ ∃ h, x.covers h = true ∧ y.covers h = true := by
  simp only [Section.overlaps, decide_eq_true_eq, covers_iff]
  constructor
  · intro common
    exact ⟨max x.f y.f, by omega⟩
  · rintro ⟨h, inX, inY⟩
    omega

/-- A hook exists when its place on its chain is below the chain's modules (R127). -/
theorem hookExists_iff (s : State) (h : Nat) :
    s.hookExists h = true ↔ h < 12288 ∧ h % 3072 < (s.chain (h / 3072)).modules * 64 := by
  rw [State.hookExists, decide_eq_true_eq]
  rfl

/-- Every hook of a section of hook numbers exists, chain by chain (R75). -/
theorem sectionExists_iff {x : Section} (hx : x.f + x.c ≤ 12288) :
    s.sectionExists x = true ↔ ∀ h, x.covers h = true → s.hookExists h = true := by
  simp only [State.sectionExists, List.all_eq_true, List.mem_range, Bool.or_eq_true, decide_eq_true_eq]
  simp only [Section.onChain, Chain.hooks, Config.hooksPerChain, Config.hooksPerModule, covers_iff, hookExists_iff]
  constructor
  · intro chains h covered
    have bound := chains (h / 3072) (by omega)
    omega
  · intro hooks c hc
    by_cases empty : min (x.f + x.c) ((c + 1) * 3072) ≤ max x.f (c * 3072)
    · exact .inl (by omega)
    · obtain ⟨-, last⟩ := hooks (min (x.f + x.c) ((c + 1) * 3072) - 1) (by omega)
      rw [show (min (x.f + x.c) ((c + 1) * 3072) - 1) / 3072 = c by omega] at last
      exact .inr (by omega)

/-- Test 3 of R75 fails for a section where it covers a hook of another section, one that does not exist, or a substitute. -/
theorem sectionConflict_iff (s : State) (n : Nat) {x : Section} (hx : x.f + x.c ≤ 12288) :
    s.sectionConflict n x = true ↔
      ∃ h, x.covers h = true ∧ ((∃ i, i < 8 ∧ i ≠ n ∧ (s.section i).covers h = true) ∨ s.hookExists h = false ∨
        ∃ e ∈ s.hft.entries, e.spare = some h) := by
  have others : (List.range 8).any (fun i => i ≠ n && x.overlaps (s.section i)) = true ↔
      ∃ h, x.covers h = true ∧ ∃ i, i < 8 ∧ i ≠ n ∧ (s.section i).covers h = true := by
    simp only [List.any_eq_true, List.mem_range, Bool.and_eq_true, decide_eq_true_eq, overlaps_iff]
    grind
  have missing : (!s.sectionExists x) = true ↔ ∃ h, x.covers h = true ∧ s.hookExists h = false := by
    rw [Bool.not_eq_true', ← Bool.not_eq_true, sectionExists_iff hx]
    simp
  have spares : s.coversSpare x = true ↔ ∃ h, x.covers h = true ∧ ∃ e ∈ s.hft.entries, e.spare = some h := by
    simp only [State.coversSpare, List.any_eq_true, Option.any_eq_true]
    grind
  have counted : (∃ h, x.covers h = true) → 0 < x.c := by
    rintro ⟨h, covered⟩
    rw [covers_iff] at covered
    omega
  simp only [State.sectionConflict, Bool.and_eq_true, decide_eq_true_eq, Bool.or_eq_true, others, missing, spares]
  grind

/-- Test 4 of R129 fails where a section or a substitute uses a hook of the chain at or above its modules. -/
theorem configConflict_iff (s : State) (n modules : Nat) :
    s.configConflict n modules = true ↔
      (∃ x ∈ s.pcm.sections.toList, ∃ h, x.covers h = true ∧ n * 3072 + modules * 64 ≤ h ∧ h < n * 3072 + 3072) ∨
        ∃ e ∈ s.hft.entries, ∃ h, e.spare = some h ∧ n * 3072 + modules * 64 ≤ h ∧ h < n * 3072 + 3072 := by
  have range (x : Section) (low high : Nat) : (0 < x.c ∧ max x.f low < min (x.f + x.c) high) ↔
      ∃ h, x.covers h = true ∧ low ≤ h ∧ h < high := by
    simp only [covers_iff]
    constructor
    · intro common
      exact ⟨max x.f low, by omega⟩
    · rintro ⟨h, covered, within⟩
      omega
  simp only [State.configConflict, Bool.or_eq_true, List.any_eq_true, Option.any_eq_true, decide_eq_true_eq, range]
  simp only [Config.hooksPerChain, Config.hooksPerModule, Nat.add_mul, Nat.one_mul]

end Sys2Proof.Machine.Program
end

section
/-! The commands that change the layout of the hooks: SECTION_WRITE, CHAIN_CONFIG, FAULT_PUT, FAULT_REMOVE, SOFT_RESET. -/

namespace Sys2Proof.Machine.Program

open Sys2Proof Sys2Proof.Machine

variable {s t : State}

/-- A section stored that shares no hook, and covers hooks that exist and are no substitutes (R75). -/
theorem substitutesFree_of_section {n : Nat} {x : Section} (free : SubstitutesFree s)
    (ht : layout t = { layout s with sections := tabSet s.pcm.sections n x })
    (clear : ∀ h, x.covers h = true → (∀ i, i < 8 → i ≠ n → (s.section i).covers h = false) ∧ s.hookExists h = true ∧
      ∀ e ∈ s.hft.entries, e.spare ≠ some h) : SubstitutesFree t := by
  obtain ⟨⟨apart, exist⟩, sorted, spares⟩ := free
  obtain ⟨sections, modules, entries⟩ := (Layout.mk.injEq ..).mp ht
  have entries : t.hft.entries = s.hft.entries := entries
  obtain ⟨-, hooks, -⟩ := section_hookExists_of_layout (s := s) (t := { t with pcm.sections := s.pcm.sections })
    ((Layout.mk.injEq ..).mpr ⟨rfl, modules, entries⟩)
  have hooks : t.hookExists = s.hookExists := hooks
  have written (i : Nat) : t.section i = if n = i ∧ n < 8 then x else s.section i := by
    rw [State.section, sections]
    exact tabGet_tabSet ..
  have common {i j : Nat} (hi : i < 8) (hj : j < 8) (other : i ≠ j) (h : Nat) (hx : (t.section i).covers h = true)
      (hy : (t.section j).covers h = true) : False := by
    rw [written] at hx hy
    split at hx
    · rw [if_neg (by omega)] at hy
      obtain ⟨alone, -⟩ := clear h hx
      simp [alone j hj (by omega)] at hy
    · split at hy
      · obtain ⟨alone, -⟩ := clear h hy
        simp [alone i hi (by omega)] at hx
      · have := (overlaps_iff _ _).2 ⟨h, hx, hy⟩
        simp [apart i j hi hj other] at this
  refine ⟨⟨fun i j hi hj other => ?_, fun i hi hc h covered => ?_⟩, entries ▸ sorted, fun e he y hy => ?_⟩
  · rw [← Bool.not_eq_true, overlaps_iff]
    rintro ⟨h, hx, hy⟩
    exact common hi hj other h hx hy
  · rw [hooks]
    rw [written] at hc covered
    split at covered
    · obtain ⟨-, there, -⟩ := clear h covered
      exact there
    · next old => exact exist i hi (by rwa [if_neg old] at hc) h covered
  · rw [entries] at he
    obtain ⟨there, unkeyed, uncovered, alone⟩ := spares e he y hy
    refine ⟨hooks ▸ there, ?_, fun i hi hc => ?_, entries ▸ alone⟩
    · rw [find_eq_none_iff, entries]
      exact (find_eq_none_iff _ _).1 unkeyed
    · rw [written] at hc ⊢
      split
      · rw [Bool.eq_false_iff]
        intro covered
        obtain ⟨-, -, unnamed⟩ := clear y covered
        exact unnamed e he hy
      · next old => exact uncovered i hi (by rwa [if_neg old] at hc)

/-- A chain configured: the hooks it loses, if any, are in no section and no substitutes (R129). -/
theorem substitutesFree_of_modules {modules : Nat → Nat} (free : SubstitutesFree s) (ht : layout t = { layout s with modules := modules })
    (kept : ∀ h, s.hookExists h = true →
      (∃ i, i < 8 ∧ (s.section i).covers h = true) ∨ (∃ e ∈ s.hft.entries, e.spare = some h) → t.hookExists h = true) :
    SubstitutesFree t := by
  obtain ⟨⟨apart, exist⟩, sorted, spares⟩ := free
  obtain ⟨sections, -, entries⟩ := (Layout.mk.injEq ..).mp ht
  have same : t.section = s.section := funext fun i => by rw [State.section, sections]; rfl
  have entries : t.hft.entries = s.hft.entries := entries
  simp only [SubstitutesFree, SectionsApart, find_eq_none_iff, same, entries]
  refine ⟨⟨apart, fun i hi hc h covered => kept h (exist i hi hc h covered) (.inl ⟨i, hi, covered⟩)⟩, sorted, fun e he x hx => ?_⟩
  obtain ⟨there, unkeyed, rest⟩ := spares e he x hx
  exact ⟨kept x there (.inr ⟨e, he, hx⟩), (find_eq_none_iff _ _).1 unkeyed, rest⟩

/-- A section as SECTION_WRITE gives it lies on hook numbers (R75). -/
theorem sectionOf_bound {index mode hmode weave lw : Byte} {f c o : BitVec 16} {x : Section}
    (h : sectionOf index f c mode hmode o weave lw = some x) : x.f + x.c ≤ 12288 := by
  unfold sectionOf at h
  split at h
  · split at h
    · next range =>
      obtain ⟨-, -, bound, -, -⟩ := range
      cases h
      exact bound
    · cases h
  · cases h

/-- A test of a command: one that fails is a refusal, which changes nothing. -/
theorem substitutesFree_test {test : Prop} [Decidable test] {why : Detail} {taken : Taken} (free : SubstitutesFree s)
    (h : ¬ test → SubstitutesFree taken.state) : SubstitutesFree (if test then .refuse why s else taken).state := by
  split
  · exact free
  · next passed => exact h passed

theorem substitutesFree_takeSectionWrite (free : SubstitutesFree s) (index mode hmode weave lw : Byte) (f c o : BitVec 16) :
    SubstitutesFree (takeSectionWrite index f c mode hmode o weave lw s).state := by
  refine substitutesFree_test free fun _ => ?_
  split
  · exact free
  · next x given =>
    refine substitutesFree_test free fun clear => ?_
    rw [sectionConflict_iff s _ (sectionOf_bound given)] at clear
    obtain ⟨sections, modules, entries⟩ := (Layout.mk.injEq ..).mp (layout_abandonWork s)
    refine substitutesFree_of_section (n := index.toNat) (x := { x with lw := clampedLw x.mode x.lw }) free ?_ fun h covered => ?_
    · refine (layout_invalidate _).trans ((Layout.mk.injEq ..).mpr ⟨?_, modules, entries⟩)
      exact congrArg (tabSet · index.toNat _) sections
    · refine ⟨fun i hi other => ?_, ?_, fun e he hx => clear ⟨h, covered, .inr (.inr ⟨e, he, hx⟩)⟩⟩
      · rw [Bool.eq_false_iff]
        exact fun both => clear ⟨h, covered, .inl ⟨i, hi, other, both⟩⟩
      · rw [← Bool.not_eq_false]
        exact fun missing => clear ⟨h, covered, .inr (.inl missing)⟩

/-- The modules of each chain once one is configured. -/
theorem updateChain_configured_modules (u : State) (n modules divisor c : Nat) :
    ((u.updateChain n fun _ => Chain.configured modules divisor).chain c).modules =
      if n = c ∧ n < 4 then modules else (u.chain c).modules := by
  have written : (u.updateChain n fun _ => Chain.configured modules divisor).chain c =
      if n = c ∧ n < 4 then Chain.configured modules divisor else u.chain c := tabGet_tabSet ..
  rw [written]
  split <;> rfl

theorem substitutesFree_takeChainConfig (free : SubstitutesFree s) (chain modules divisor : Byte) :
    SubstitutesFree (takeChainConfig chain modules divisor s).state := by
  refine substitutesFree_test free fun _ => substitutesFree_test free fun _ => substitutesFree_test free fun _ =>
    substitutesFree_test free fun clear => ?_
  rw [configConflict_iff] at clear
  let u := s.abandonWork.updateChain chain.toNat fun _ => Chain.configured modules.toNat divisor.toNat
  obtain ⟨sections, stood, entries⟩ := (Layout.mk.injEq ..).mp (layout_abandonWork s)
  have configured : SubstitutesFree u := by
    refine substitutesFree_of_modules (modules := fun c => (u.chain c).modules) free
      ((Layout.mk.injEq ..).mpr ⟨sections, rfl, entries⟩) fun h there used => ?_
    rw [hookExists_iff] at there ⊢
    obtain ⟨number, place⟩ := there
    refine ⟨number, ?_⟩
    rw [updateChain_configured_modules]
    split
    · refine Nat.lt_of_not_le fun lost => clear ?_
      have within : chain.toNat * 3072 + modules.toNat * 64 ≤ h ∧ h < chain.toNat * 3072 + 3072 := by omega
      rcases used with ⟨i, hi, covered⟩ | ⟨e, he, hx⟩
      · exact .inl ⟨s.section i, tabGet_mem _ _ _ hi, h, covered, within⟩
      · exact .inr ⟨e, he, h, hx, within⟩
    · exact place.trans_eq (congrArg (· * 64) (congrFun stood _).symm)
  exact substitutesFree_of_layout configured (layout_invalidate u)

theorem substitutesFree_takeFaultPut (free : SubstitutesFree s) (hook : BitVec 16) (action : Byte) (spare : BitVec 16) :
    SubstitutesFree (takeFaultPut hook action spare s).state := by
  unfold takeFaultPut
  split
  · exact free
  · next a _ =>
    refine substitutesFree_test free fun _ => substitutesFree_test free fun clear => substitutesFree_test free fun _ => ?_
    simp only [State.putConflict, Bool.or_eq_true, not_or, sparedElsewhere_iff] at clear
    obtain ⟨unnamed, clear⟩ := clear
    refine substitutesFree_of_put (e := s.hft.staticEntry hook.toNat a) free (layout_invalidate _) ?_ fun x hx => ?_
    · rw [staticEntry_eq]
      exact fun y hy other hx => unnamed ⟨y, hy, other, hx⟩
    · rw [staticEntry_eq] at hx ⊢
      cases a with
      | park => cases hx
      | substitute z =>
        obtain rfl : z = x := Option.some.inj hx
        simp only [spareConflict_iff, not_or] at clear
        obtain ⟨apart, there, uncovered, unkeyed, alone⟩ := clear
        refine ⟨apart, Bool.not_eq_false _ ▸ there, fun i hi hc => ?_,
          fun y hy => ⟨fun key => unkeyed ⟨y, hy, key⟩, fun other named => alone ⟨y, hy, other, named⟩⟩⟩
        rw [Bool.eq_false_iff]
        exact fun covered => uncovered ⟨s.section i, tabGet_mem _ _ _ hi, hc, covered⟩

theorem substitutesFree_takeFaultRemove (free : SubstitutesFree s) (hook : BitVec 16) :
    SubstitutesFree (takeFaultRemove hook s).state := by
  refine substitutesFree_test free fun _ => ?_
  split
  · exact free
  · exact substitutesFree_of_filter (keep := fun x => x.hook ≠ hook.toNat) free (layout_invalidate _)

theorem substitutesFree_takeSoftReset (free : SubstitutesFree s) : SubstitutesFree (takeSoftReset s).state :=
  substitutesFree_test free fun _ => substitutesFree_of_layout (substitutesFree_softReset free) (layout_sendState _ _)

/-! ### The other commands -/

/-- A test of a command: one that fails is a refusal, which changes nothing. -/
theorem layout_test {test : Prop} [Decidable test] {why : Detail} {taken : Taken} (h : ¬ test → layout taken.state = layout s) :
    layout (if test then Taken.refuse why s else taken).state = layout s := by
  split
  · rfl
  · next passed => exact h passed

theorem layout_takeStepCut (s : State) (seq : BitVec 16) : layout (takeStepCut seq s).state = layout s := by
  unfold takeStepCut
  split
  · rfl
  · exact layout_test fun _ => layout_invalidate _

theorem layout_takeCells (s : State) (fromStart : Bool) (count : BitVec 16) (packed : List Byte) :
    layout (takeCells fromStart count packed s).state = layout s := by
  refine layout_test fun _ => ?_
  split
  · rfl
  · next w _ =>
    refine layout_test fun _ => layout_test fun _ => ?_
    split
    · rfl
    · exact (layout_invalidateFor _ s w.design).trans (layout_settleReads s w.design)

theorem layout_takeWeaveWrite (s : State) (id ww wh : Byte) (rows : List (BitVec 32)) :
    layout (takeWeaveWrite id ww wh rows s).state = layout s :=
  layout_test fun _ => layout_test fun _ => layout_invalidate _

theorem layout_takeColormapWrite (s : State) (design colour : Byte) (slots : Vector RawSlot 4) :
    layout (takeColormapWrite design colour slots s).state = layout s := by
  unfold takeColormapWrite
  split
  · rfl
  · exact layout_test fun _ => layout_test fun _ => layout_test fun _ =>
      (layout_invalidateFor _ s design.toNat).trans (layout_settleReads s design.toNat)

theorem layout_takeFloatLimits (s : State) (limit : Byte) : layout (takeFloatLimits limit s).state = layout s :=
  layout_test fun _ => (layout_invalidate _).trans (layout_abandonWork s)

theorem layout_takeChainProbe (s : State) (chain : Byte) : layout (takeChainProbe chain s).state = layout s := by
  refine layout_test fun _ => layout_test fun _ => layout_test fun _ => ?_
  split
  · have probing : layout (s.abandonWork.invalidate.updateChain chain.toNat Chain.probing) = layout s.abandonWork.invalidate :=
      layout_updateChain _ rfl
    exact probing.trans (by simp)
  · rfl

theorem layout_takeStepAppend (s : State) (design : Byte) (first last : BitVec 16) (vmode : Byte) (n : BitVec 16) (p weftSeq : Byte)
    (tag : OptField 16) (stop : Byte) : layout (takeStepAppend design first last vmode n p weftSeq tag stop s).state = layout s := by
  unfold takeStepAppend
  repeat' split
  all_goals rfl

/-- The commands that change the sections, the chains or the fault table. -/
def ChangesLayout : Instr → Prop
  | .softReset | .sectionWrite .. | .chainConfig .. | .faultPut .. | .faultRemove .. => True
  | _ => False

/-- A walk of the fault table moves its position alone (R152). -/
theorem layout_walkTo (e : Option FaultEntry) (s : State) : layout (walkTo e s).state = layout s := by
  cases e <;> rfl

/-- The other commands, which read, or write to other blocks than the sections, the chains and the fault table. -/
theorem layout_owner {c : Instr} {owner : State → Taken} (s : State) (ho : ownerOf c = some owner) (other : ¬ ChangesLayout c) :
    layout (owner s).state = layout s := by
  cases c with
  | softReset | sectionWrite | chainConfig | faultPut | faultRemove => exact absurd trivial other
  | stepAppend => cases ho; exact layout_takeStepAppend _ _ _ _ _ _ _ _ _ _
  | stepCut => cases ho; exact layout_takeStepCut _ _
  | cells | cellsMore => cases ho; exact layout_takeCells _ _ _ _
  | weaveWrite => cases ho; exact layout_takeWeaveWrite _ _ _ _ _
  | colormapWrite => cases ho; exact layout_takeColormapWrite _ _ _ _
  | floatLimits => cases ho; exact layout_takeFloatLimits _ _
  | chainProbe => cases ho; exact layout_takeChainProbe _ _
  | faultFirst => cases ho; exact layout_walkTo _ _
  | runCountersRead | sectionRead | chainRead | weaveRead | weftRead | weftSeqWrite => cases ho; exact layout_test fun _ => rfl
  | colormapRead | designSum => cases ho; exact layout_test fun _ => layout_test fun _ => rfl
  | designDelete => cases ho; exact layout_test fun _ => layout_test fun _ => layout_test fun _ => rfl
  | statusRead | eventsRead | anglesRead | queueWatermark | storeFree | agingPeriod | faultStop => cases ho; rfl
  | eventsClear | eventsMask | statsRead | statsClear | anglesArm | anglesWrite | stopModeWrite | syncSource | syncSet |
    syncClear | waitSync | queueRead | designDefine | designInfo | designWindow | cellsRead | readMore | historyRead |
    faultInfo | weftMapWrite =>
    cases ho
    simp only [takeEventsClear, takeEventsMask, takeStatsRead, takeStatsClear, takeAnglesArm, takeAnglesWrite, takeStopModeWrite,
      takeSyncSource, takeSyncSet, takeSyncClear, takeWaitSync, takeQueueRead, takeDesignDefine, takeDesignInfo,
      takeDesignWindow, takeRead, takeHistoryRead, takeFaultInfo, takeWeftMapWrite]
    repeat' split
    all_goals rfl
  | faultNext =>
    cases ho
    unfold takeFaultNext
    split
    · rfl
    · exact layout_walkTo _ _
  | _ => cases ho

/-- A design link command, whatever it answers. -/
theorem substitutesFree_owner {c : Instr} {owner : State → Taken} (free : SubstitutesFree s) (ho : ownerOf c = some owner) :
    SubstitutesFree (owner s).state := by
  by_cases changes : ChangesLayout c
  · cases c with
    | softReset => cases ho; exact substitutesFree_takeSoftReset free
    | sectionWrite => cases ho; exact substitutesFree_takeSectionWrite free _ _ _ _ _ _ _ _
    | chainConfig => cases ho; exact substitutesFree_takeChainConfig free _ _ _
    | faultPut => cases ho; exact substitutesFree_takeFaultPut free _ _ _
    | faultRemove => cases ho; exact substitutesFree_takeFaultRemove free _
    | _ => exact changes.elim
  · exact substitutesFree_of_layout free (layout_owner s ho changes)

end Sys2Proof.Machine.Program
end

section
/-! Every step keeps sections apart and substitutes free (R74, R75, R129, R143, R146, R150). -/

namespace Sys2Proof.Machine.Program

open Sys2Proof Sys2Proof.Machine

variable {s t : State}

/-! ### The loom link -/

@[simp] theorem layout_takeMessage (s : State) (kind first second : Byte) : layout (s.takeMessage kind first second) = layout s := by
  unfold State.takeMessage
  split
  case h_9 => exact layout_refuseMessage s kind .unknown
  all_goals simp

@[simp] theorem layout_receiveMessage (s : State) (bytes : List Byte) : layout (s.receiveMessage bytes) = layout s := by
  unfold State.receiveMessage
  dsimp only
  split
  · simp
  · rfl

theorem layout_receiveByte (s : State) (b : Byte) : layout (s.receiveByte b) = layout s := by
  unfold State.receiveByte
  dsimp only
  split
  · rfl
  · simp

theorem layout_byteAfterGap (s : State) (b : Byte) : layout (s.byteAfterGap b) = layout s := by
  unfold State.byteAfterGap
  dsimp only
  split <;> rfl

/-! ### The design link -/

theorem layout_done (kind : Byte) (taken : Taken) : layout (taken.done kind) = layout taken.state := by
  unfold Taken.done
  split <;> rfl

theorem substitutesFree_takeCommand {c : Instr} {owner : State → Taken} (free : SubstitutesFree s) (ho : ownerOf c = some owner) :
    SubstitutesFree (s.takeCommand c owner) := by
  unfold State.takeCommand
  split
  · exact substitutesFree_of_layout free rfl
  · exact substitutesFree_of_layout (substitutesFree_owner (substitutesFree_of_layout free (layout_frameIn s (frameOf c))) ho)
      (layout_done _ _)

theorem layout_readResponse (s : State) (clocked : Nat) : layout (s.readResponse clocked) = layout s := by
  unfold State.readResponse
  dsimp only
  split <;> rfl

theorem substitutesFree_endFrame (free : SubstitutesFree s) (bytes : List Byte) : SubstitutesFree (s.endFrame bytes) := by
  have taken : SubstitutesFree (s.frameIn bytes) := substitutesFree_of_layout free (layout_frameIn s bytes)
  unfold State.endFrame
  split
  · next kind payload _ =>
    unfold State.ownFrame
    split
    · next owner found =>
      obtain ⟨c, -, ho⟩ := Option.bind_eq_some_iff.1 found
      exact substitutesFree_of_layout (substitutesFree_owner taken ho) (layout_done _ _)
    · exact substitutesFree_of_layout taken (layout_answer _ _ _ _ _)
  · next why _ => exact substitutesFree_of_layout taken (by cases why <;> rfl)

theorem substitutesFree_takeBracket (free : SubstitutesFree s) (bytes : List Byte) : SubstitutesFree (s.takeBracket bytes) := by
  unfold State.takeBracket
  split
  · exact free
  · split
    · exact substitutesFree_of_layout free rfl
    · split
      · exact substitutesFree_of_layout free (layout_readResponse s _)
      · exact substitutesFree_endFrame free _

/-! ### The statement -/

theorem layout_defineDone (s : State) (id : Nat) : layout (s.defineDone id) = layout s := by
  unfold State.defineDone
  split <;> rfl

theorem layout_sumDone (s : State) (id : Nat) : layout (s.sumDone id) = layout s := by
  unfold State.sumDone
  split <;> rfl

theorem layout_slipIf (s : State) (slipped : Bool) : layout (s.slipIf slipped) = layout s :=
  layout_congr (by simp) (by simp) (by simp)

theorem layout_forwardIndexCrossing (s : State) :
    layout (State.countRelease { s.indexForward with hcu.transferDue := false }).engageDue.carryEngagement = layout s := by
  have crossed : layout s.indexForward = layout s := layout_congr (by simp) (by simp) (by simp)
  simp only [layout_carryEngagement, layout_engageDue, layout_countRelease]
  exact crossed

/-- A row that is no design link command. -/
theorem substitutesFree_event {i : Instr} (free : SubstitutesFree s) (none : ownerOf i = none) :
    ∃ t, exec i s = .next t ∧ SubstitutesFree t := by
  have keeps {t : State} (h : layout t = layout s) : SubstitutesFree t := substitutesFree_of_layout free h
  cases i with
  | powerOn => exact ⟨_, rfl, substitutesFree_of_layout substitutesFree_reset rfl⟩
  | forwardStep early => exact ⟨_, rfl, substitutesFree_forwardStep free early⟩
  | backwardStep => exact ⟨_, rfl, keeps rfl⟩
  | illegalTransition => exact ⟨_, rfl, keeps (layout_slipIf s true)⟩
  | forwardIndexCrossing => exact ⟨_, rfl, keeps (layout_forwardIndexCrossing s)⟩
  | backwardIndexCrossing => exact ⟨_, rfl, keeps (layout_slipIf s _)⟩
  | deadTimeComplete early =>
    refine ⟨_, rfl, ?_⟩
    split
    · exact substitutesFree_forwardStep free early
    · exact free
  | compositionEnd =>
    refine ⟨_, rfl, ?_⟩
    split
    · exact keeps (layout_tryTransfer _)
    · exact free
  | chainShiftComplete chain values final =>
    refine ⟨_, rfl, ?_⟩
    split
    · next x _ =>
      split
      · exact free
      · split
        · exact substitutesFree_shiftPassed free chain x _
        · exact keeps (layout_shiftFailed s chain x)
    · exact free
  | agingPass => exact ⟨_, rfl, substitutesFree_agingPass free⟩
  | waitTimeout => exact ⟨_, rfl, keeps (layout_failWait s .timeout)⟩
  | defineClearDone =>
    refine ⟨_, rfl, ?_⟩
    split
    · exact keeps (layout_defineDone s _)
    · exact free
  | sumDone =>
    refine ⟨_, rfl, ?_⟩
    split
    · exact keeps (layout_sumDone s _)
    · exact free
  | probeCountEnd marker =>
    refine ⟨_, rfl, ?_⟩
    split
    · next pr _ =>
      split
      · exact keeps (layout_endCount s pr marker)
      · exact free
    · exact free
  | run => exact ⟨_, rfl, keeps (layout_takeRun s.messageTaken)⟩
  | stop cause channel => exact ⟨_, rfl, keeps (layout_takeStop s.messageTaken cause channel)⟩
  | find => exact ⟨_, rfl, keeps (layout_takeFind s.messageTaken)⟩
  | pickBack => exact ⟨_, rfl, keeps (layout_takePickBack s.messageTaken)⟩
  | packageOut channel => exact ⟨_, rfl, keeps (layout_takePackageOut s.messageTaken channel)⟩
  | packageReady channel => exact ⟨_, rfl, keeps (layout_takePackageReady s.messageTaken channel)⟩
  | releaseWait => exact ⟨_, rfl, keeps (layout_takeReleaseWait s.messageTaken)⟩
  | statusAsk => exact ⟨_, rfl, keeps (layout_sendState s.messageTaken false)⟩
  | llMessageBadCheck message => exact ⟨_, rfl, keeps (layout_receiveMessage s message.toList)⟩
  | llUnknownKind message => exact ⟨_, rfl, keeps (layout_receiveMessage s message.toList)⟩
  | llFramingError => exact ⟨_, rfl, keeps rfl⟩
  | llByteGap held byte => exact ⟨_, rfl, keeps ((layout_byteAfterGap _ byte).trans (layout_foldl s layout_receiveByte held))⟩
  | llMessageSent =>
    refine ⟨_, rfl, keeps ?_⟩
    split <;> rfl
  | responseRead clocked =>
    refine ⟨_, rfl, keeps ?_⟩
    split
    · rfl
    · exact layout_readResponse s clocked
  | busyDiscard bytes | dlUnknownFrame bytes | dlBadLengthFrame bytes | dlBadCheckFrame bytes =>
    exact ⟨_, rfl, substitutesFree_takeBracket free bytes⟩
  | _ => cases none

/-- Settles O59: a step idles, or takes a design link command or another row. -/
theorem stepKeepsSubstitutesFree : Obligations.StepKeepsSubstitutesFree := by
  intro s t free h
  unfold step at h
  split at h
  · cases h
    exact free
  · next i rest _ =>
    have waits : SubstitutesFree { s with pending := rest } := substitutesFree_of_layout free rfl
    cases ho : ownerOf i with
    | some owner =>
      rw [exec_command ho] at h
      cases h
      exact substitutesFree_takeCommand waits ho
    | none =>
      obtain ⟨u, taken, kept⟩ := substitutesFree_event waits ho
      rw [taken] at h
      cases h
      exact kept

end Sys2Proof.Machine.Program
end

section
/-! The commands taken in STOPPED alone, as the staging record is discarded or abandoned with them (R93, R95); SECTION_WRITE, SECTION_READ. -/

namespace Sys2Proof.Machine.Program

open Sys2Proof Sys2Proof.Machine

variable {s : State}

/-! ### The staging record under a command of R95 -/

/-- The discard rests on nothing of the design link port. -/
theorem discarded_frameIn (s : State) (l : List Byte) : (s.frameIn l).discarded = s.discarded.frameIn l := by
  unfold State.discarded
  rw [show (s.frameIn l).pcm.staging = s.pcm.staging from rfl]
  split <;> rfl

/-- With no staging record there is nothing to discard. -/
theorem discarded_of_empty (h : s.pcm.staging = none) : s.discarded = s := by
  unfold State.discarded
  rw [h]

/-- The discard leaves no staging record. -/
theorem discarded_staging (s : State) : s.discarded.pcm.staging = none := by
  unfold State.discarded
  split
  · next h => exact h
  · rfl

/-- Work in flight abandoned, an effect made that keeps the staging record, and the list met: the record is discarded, whatever its state
(R93, R95). -/
theorem abandoned_invalidated {f : State → State} (stopped : s.stu.weaving = .stopped) (stu : ∀ u, (f u).stu = u.stu)
    (staging : ∀ u, (f u).pcm.staging = u.pcm.staging) (commutes : f s.discarded = (f s).discarded) :
    (f s.abandonWork).invalidate = (f s).discarded := by
  have still : (f s).stu.weaving ≠ .running := by rw [stu, stopped]; decide
  have empty (u : State) (h : u.pcm.staging = none) : (f u).invalidate = f u :=
    (f u).invalidate_of_early (by simp [staging, h])
  have abandoned (h : s.abandonWork = s.discarded) : (f s.abandonWork).invalidate = (f s).discarded := by
    rw [h, empty _ (discarded_staging s), commutes]
  cases hst : s.pcm.staging with
  | none =>
    have waits : s.abandonWork = s := by simp [State.abandonWork, hst]
    rw [waits, empty s hst, discarded_of_empty (by rw [staging, hst])]
  | some st =>
    have waits (h : s.abandonWork = s) (late : ∀ r, st.phase ≠ .composing r) : (f s.abandonWork).invalidate = (f s).discarded := by
      rw [h]
      exact (f s).invalidate_of_late st (by rw [staging, hst]) late still
    obtain ⟨p, phase⟩ := st
    cases phase with
    | composing r => exact abandoned (by simp [State.abandonWork, hst, State.discardStaging_eq_discarded])
    | transferring r => exact abandoned (by simp [State.abandonWork, hst, State.discardStaging_eq_discarded])
    | composed r => exact waits (by simp [State.abandonWork, hst]) nofun
    | transferred r => exact waits (by simp [State.abandonWork, hst]) nofun

/-! ### The fields of SECTION_WRITE -/

section Fields

variable {index mode hmode weave lw : Byte} {f c o : BitVec 16}

/-- The fields of SECTION_WRITE within the ranges test 2 of R75 asks for. -/
def SectionFields (index mode hmode weave : Byte) (f c o : BitVec 16) : Prop :=
  index.toNat < 8 ∧ f.toNat < 12288 ∧ f.toNat + c.toNat ≤ 12288 ∧ mode.toNat ≤ 2 ∧ hmode.toNat ≤ 1 ∧ o.toNat < 6144 ∧ weave.toNat < 32

/-- The section with such fields, its weft float limit as given (R74). -/
def sectionGiven (mode hmode weave lw : Byte) (f c o : BitVec 16) : Section :=
  { f := f.toNat, c := c.toNat, mode := if mode = 0 then .design else if mode = 1 then .fixed else .parked,
    hmode := if hmode = 0 then .straight else .point, o := o.toNat, weave := weave.toNat, lw := lw.toNat }

/-- A mode byte with a meaning (R74). -/
theorem sectionModeOf_eq {b : Byte} (h : b.toNat ≤ 2) :
    sectionModeOf b = some (if b = 0 then .design else if b = 1 then .fixed else .parked) := by
  have : b = 0#8 ∨ b = 1#8 ∨ b = 2#8 := by bv_omega
  rcases this with rfl | rfl | rfl <;> rfl

/-- A mode byte without a meaning. -/
theorem sectionModeOf_none {b : Byte} (h : ¬ b.toNat ≤ 2) : sectionModeOf b = none := by
  unfold sectionModeOf
  rw [if_neg (by bv_omega), if_neg (by bv_omega), if_neg (by bv_omega)]

theorem sectionOf_fields (h : SectionFields index mode hmode weave f c o) :
    sectionOf index f c mode hmode o weave lw = some (sectionGiven mode hmode weave lw f c o) := by
  obtain ⟨hi, hf, hc, hm, hh, ho, hw⟩ := h
  simp only [sectionOf, sectionModeOf_eq hm, repeatOf_eq hh]
  exact if_pos ⟨hi, hf, hc, ho, hw⟩

theorem sectionOf_badField (h : ¬ SectionFields index mode hmode weave f c o) : sectionOf index f c mode hmode o weave lw = none := by
  by_cases hm : mode.toNat ≤ 2
  · by_cases hh : hmode.toNat ≤ 1
    · simp only [sectionOf, sectionModeOf_eq hm, repeatOf_eq hh]
      refine if_neg fun ⟨hi, hf, hc, ho, hw⟩ => h ⟨hi, hf, hc, hm, hh, ho, hw⟩
    · simp only [sectionOf, sectionModeOf_eq hm, repeatOf_none hh]
  · simp only [sectionOf, sectionModeOf_none hm]

/-- The weft float limit that a section of a mode stores (R75). -/
theorem clampedLw_eq (hm : mode.toNat ≤ 2) :
    clampedLw (sectionGiven mode hmode weave lw f c o).mode lw.toNat =
      if mode = 2 then 0 else if lw.toNat = 1 then 2 else min lw.toNat 64 := by
  have : mode = 0#8 ∨ mode = 1#8 ∨ mode = 2#8 := by bv_omega
  rcases this with rfl | rfl | rfl <;> rfl

end Fields

/-- SECTION_WRITE of a section with its fields in range, taken in STOPPED: a conflict, or the section stored with its limit clamped and the
staging record gone (R75, R76, R93, R95). -/
theorem takeSectionWrite_given {index mode hmode weave lw : Byte} {f c o : BitVec 16} {x y : Section} (stopped : s.stu.weaving = .stopped)
    (given : sectionOf index f c mode hmode o weave lw = some x) (stored : { x with lw := clampedLw x.mode x.lw } = y) :
    takeSectionWrite index f c mode hmode o weave lw s =
      let after : State := { s with pcm.sections := tabSet s.pcm.sections index.toNat y }
      if s.sectionConflict index.toNat x then .refuse .conflict s
      else .acceptClamped (decide (y.lw ≠ x.lw)) (y.payload ++ u16 after.coveredHooks ++ u16 (12288 - after.coveredHooks))
        after.discarded := by
  subst stored
  have sections : s.abandonWork.pcm.sections = s.pcm.sections := congrArg Layout.sections (layout_abandonWork s)
  have left := abandoned_invalidated (s := s)
    (f := fun u => { u with pcm.sections := tabSet u.pcm.sections index.toNat { x with lw := clampedLw x.mode x.lw } }) stopped
    (fun _ => rfl) (fun _ => rfl) (by unfold State.discarded; dsimp only; split <;> rfl)
  unfold takeSectionWrite
  rw [if_neg (not_not.2 stopped), given]
  dsimp only
  rw [left]
  simp only [State.coveredHooks, sections]
  rfl

/-! ### SECTION_READ -/

/-- The places of a range within two bounds. -/
theorem countP_range_between (a b m : Nat) : (List.range m).countP (fun i => decide (a ≤ i ∧ i < b)) = min b m - a := by
  induction m with
  | zero => simp
  | succ m ih =>
    rw [List.range_succ, List.countP_append, ih, List.countP_singleton]
    by_cases h : a ≤ m ∧ m < b
    · simp only [h, and_self, decide_true, if_true]
      omega
    · simp only [h, decide_false, Bool.false_eq_true, if_false]
      omega

/-- The hooks of a section on the first chain numbers, where a chain counts (R77). -/
theorem countP_onChain (x : Section) (counts : Nat → Bool) (n : Nat) :
    (List.range (n * 3072)).countP (fun h => x.covers h && counts (h / 3072)) =
      ((List.range n).map fun c => if counts c then x.onChain c else 0).sum := by
  induction n with
  | zero => rfl
  | succ n ih =>
    have block : (List.range 3072).countP (fun i => x.covers (n * 3072 + i) && counts ((n * 3072 + i) / 3072)) =
        if counts n then x.onChain n else 0 := by
      have one : (List.range 3072).countP (fun i => x.covers (n * 3072 + i) && counts ((n * 3072 + i) / 3072)) =
          (List.range 3072).countP (fun i => decide (x.f - n * 3072 ≤ i ∧ i < x.f + x.c - n * 3072) && counts n) := by
        refine List.countP_congr fun i hi => ?_
        have place : (n * 3072 + i) / 3072 = n := by
          have := List.mem_range.1 hi
          omega
        rw [place, Bool.and_eq_true, Bool.and_eq_true, covers_iff, decide_eq_true_eq]
        exact and_congr_left fun _ => by omega
      rw [one]
      cases counts n with
      | false => simp
      | true =>
        simp only [Bool.and_true, countP_range_between, if_true, Section.onChain, Config.hooksPerChain]
        omega
    rw [Nat.succ_mul, List.range_add, List.countP_append, ih, List.countP_map, List.range_succ (n := n), List.map_append, List.sum_append,
      List.map_singleton, List.sum_singleton]
    exact congrArg _ block

/-- The hooks of a section on ACTIVE chains (R77). -/
theorem activeHooks_eq (s : State) (x : Section) :
    s.activeHooks x = (List.range 12288).countP fun h => x.covers h && decide ((s.chain (h / 3072)).state = .active) := by
  have counted := countP_onChain x (fun c => decide ((s.chain c).state = .active)) 4
  simp only [decide_eq_true_eq] at counted
  exact counted.symm

/-- Settles O49: the tests in order, the section stored, and the hooks read on ACTIVE chains. -/
theorem sectionCommands : Obligations.SectionCommands := by
  intro s index mode hmode weave lw f c o hb n write fields covers conflict limit x after bytes covered
  let given := sectionGiven mode hmode weave lw f c o
  have conflicts (hf : fields) : s.sectionConflict n given = true ↔ conflict := by
    obtain ⟨-, -, bound, -⟩ := hf
    rw [sectionConflict_iff s n (x := given) bound]
    simp only [covers_iff given]
    exact Iff.rfl
  have stored (hf : fields) : { given with lw := clampedLw given.mode given.lw } = x := by
    obtain ⟨-, -, -, hm, -⟩ := hf
    exact congrArg (fun l => { given with lw := l }) (clampedLw_eq hm)
  have asks (hs : s.stu.weaving = .stopped) (hf : fields) := takeSectionWrite_given (s := s.frameIn (frameOf write)) hs
    (sectionOf_fields (lw := lw) hf) (stored hf)
  refine ⟨fun running => refuses_of_owner rfl hb (if_pos running), fun stopped hf => ?_,
    fun stopped hf hc => refuses_of_owner rfl hb ((asks stopped hf).trans (if_pos ((conflicts hf).2 hc))), fun stopped hf hc => ?_,
    fun hn => refuses_of_owner rfl hb (if_pos hn), fun hn => accepts_plain rfl hb ?_⟩
  · refine refuses_of_owner rfl hb ((if_neg (not_not.2 stopped)).trans ?_)
    rw [sectionOf_badField hf]
  · refine accepts_plain rfl hb ((asks stopped hf).trans ((if_neg (mt (conflicts hf).1 hc)).trans ?_))
    have detail : (if decide (x.lw ≠ lw.toNat) then Detail.clamped else .plain) = if limit = lw.toNat then .plain else .clamped := by
      by_cases h : limit = lw.toNat <;> simp [x, h]
    rw [Taken.acceptClamped, ← discarded_frameIn, ← detail]
    rfl
  · rw [← activeHooks_eq]
    exact if_neg (Nat.not_le.2 hn)

end Sys2Proof.Machine.Program
end

section
/-! CHAIN_CONFIG, CHAIN_PROBE and CHAIN_READ (R129, R130, R140). -/

namespace Sys2Proof.Machine.Program

open Sys2Proof Sys2Proof.Machine

variable {s : State} {chain modules divisor : Byte}

/-! ### A chain changed as the staging record is discarded -/

/-- A chain that shifts no transfer has none to drop. -/
theorem dropTransfer_eq_self {c : Chain} (h : ∀ x, c.shift = some x → x.work ≠ .transfer) : c.dropTransfer = c := by
  unfold Chain.dropTransfer
  refine if_neg fun transfers => ?_
  obtain ⟨x, hx, work⟩ := (Option.any_eq_true _ _).1 transfers
  exact h x hx (of_decide_eq_true work)

/-- A chain's record changed by what makes nothing of a transfer it shifts: the discard may come before or after. -/
theorem updateChain_discarded {n : Nat} {f : Chain → Chain} (hn : n < 4) (before : ∀ c, f c.dropTransfer = f c)
    (after : ∀ c, (f c).dropTransfer = f c) : s.discarded.updateChain n f = (s.updateChain n f).discarded := by
  cases hst : s.pcm.staging with
  | none => rw [discarded_of_empty hst, discarded_of_empty (s := s.updateChain n f) hst]
  | some st =>
    have chains : tabSet (s.hcu.chains.map Chain.dropTransfer) n (f (s.discarded.chain n)) =
        (tabSet s.hcu.chains n (f (s.chain n))).map Chain.dropTransfer := by
      rw [discarded_chain hst hn, before, tabSet, tabSet, Vector.map_setIfInBounds, after]
    rw [discarded_of_staging (s := s.updateChain n f) hst, State.updateChain]
    rw [discarded_of_staging hst] at chains ⊢
    simp only [State.updateChain, ← chains]

/-! ### The commands -/

/-- A chain as CHAIN_CONFIG leaves it (R129). -/
theorem configured_eq (modules divisor : Byte) :
    Chain.configured modules.toNat divisor.toNat =
      { state := if modules = 0 then .disabled else .unprobed, modules := modules.toNat, divisor := divisor.toNat, image := 0,
        probe := .absent, shift := none } := by
  have zero : modules.toNat = 0 ↔ modules = 0 := by bv_omega
  simp only [Chain.configured, zero]
  rfl

/-- The state code of a chain just configured: DISABLED 0, UNPROBED 1 (R127, R140). -/
theorem configured_code (modules divisor : Byte) :
    (Chain.configured modules.toNat divisor.toNat).state.code = if modules = 0 then 0 else 1 := by
  rw [configured_eq]
  dsimp only
  split <;> rfl

/-- CHAIN_CONFIG with its tests passed: the chain configured and the staging record gone (R129, R93, R95). -/
theorem takeChainConfig_passed (fields : ¬ (4 ≤ chain.toNat ∨ 48 < modules.toNat ∨ divisor.toNat = 0 ∨ 64 < divisor.toNat))
    (stopped : s.stu.weaving = .stopped) (free : s.ph.representing = none) :
    takeChainConfig chain modules divisor s =
      if s.configConflict chain.toNat modules.toNat then .refuse .conflict s
      else .accept (u8 (if modules = 0 then 0 else 1) ++ [modules, divisor] ++ u16 (s.sectionHooks chain.toNat))
        (s.updateChain chain.toNat fun _ => Chain.configured modules.toNat divisor.toNat).discarded := by
  let f (u : State) := u.updateChain chain.toNat fun _ => Chain.configured modules.toNat divisor.toNat
  have left : (f s.abandonWork).invalidate = (f s).discarded := abandoned_invalidated stopped (fun _ => rfl) (fun _ => rfl)
    (updateChain_discarded (by omega) (fun _ => rfl) fun _ => dropTransfer_eq_self fun x hx => by simp [Chain.configured] at hx)
  unfold takeChainConfig
  rw [if_neg fields, if_neg (not_not.2 stopped), free, ← configured_code, ← left]
  rfl

/-- CHAIN_PROBE with its first tests passed: the probe begun and the staging record gone, or a chain that may not be probed (R130, R95). -/
theorem takeChainProbe_passed (hn : chain.toNat < 4) (stopped : s.stu.weaving = .stopped) (free : s.ph.representing = none) :
    takeChainProbe chain s =
      if (s.chain chain.toNat).probable then
        .hold .probe (State.discarded { s.updateChain chain.toNat Chain.probing with
          hcu.probing := some { chain := Fin.ofNat 4 chain.toNat, presented := none, mismatches := 0 } })
      else .refuse .wrongState s := by
  have gone : s.abandonWork.invalidate = s.discarded :=
    abandoned_invalidated (f := id) stopped (fun _ => rfl) (fun _ => rfl) rfl
  have begun : s.discarded.updateChain chain.toNat Chain.probing = (s.updateChain chain.toNat Chain.probing).discarded := by
    refine updateChain_discarded hn (fun c => ?_) fun c => dropTransfer_eq_self fun x hx => ?_
    · unfold Chain.dropTransfer
      split <;> rfl
    · cases hx
      decide
  have named (u : State) (p : Option Probe) : { u.discarded with hcu.probing := p } = State.discarded { u with hcu.probing := p } := by
    unfold State.discarded
    dsimp only
    split <;> rfl
  unfold takeChainProbe
  rw [if_neg (Nat.not_le.2 hn), if_neg (not_not.2 stopped), free, ← named, ← begun, ← gone]
  rfl

/-- Settles O37: each command's tests in order, then the state it leaves. -/
theorem chainCommands : Obligations.ChainCommands := by
  intro s chain modules divisor hb n first conflict config probe fields stopped free probable configured probed
  have range : ¬ fields ↔ 4 ≤ n ∨ 48 < modules.toNat ∨ divisor.toNat = 0 ∨ 64 < divisor.toNat := by
    simp only [fields]
    omega
  have conflicts : s.configConflict n modules.toNat = true ↔ conflict := configConflict_iff s n modules.toNat
  have mayProbe : (s.chain n).probable = true ↔ probable := by simp [Chain.probable, probable]
  have busy (h : ¬ free) : s.ph.representing.isSome = true := Option.isSome_iff_ne_none.2 h
  have configs (hf : fields) (hs : stopped) (hr : free) :=
    takeChainConfig_passed (s := s.frameIn (frameOf config)) (mt range.2 (not_not.2 hf)) hs hr
  have probes (hn : n < 4) (hs : stopped) (hr : free) := takeChainProbe_passed (s := s.frameIn (frameOf probe)) hn hs hr
  refine ⟨⟨fun hf => ?_, fun hf hs => ?_, fun hf hs hr => ?_, fun hf hs hr hc => ?_, fun hf hs hr hc => ?_⟩,
    ⟨fun hn => ?_, fun hn hs => ?_, fun hn hs hr => ?_, fun hn hs hr hp => ?_, fun hn hs hr hp => ?_⟩, fun hn => ?_, fun hn => ?_⟩
  · exact refuses_of_owner rfl hb (if_pos (range.1 hf))
  · exact refuses_of_owner rfl hb ((if_neg (mt range.2 (not_not.2 hf))).trans (if_pos hs))
  · exact refuses_of_owner rfl hb ((if_neg (mt range.2 (not_not.2 hf))).trans ((if_neg (not_not.2 hs)).trans (if_pos (busy hr))))
  · exact refuses_of_owner rfl hb ((configs hf hs hr).trans (if_pos (conflicts.2 hc)))
  · refine accepts_plain rfl hb ((configs hf hs hr).trans ((if_neg (mt conflicts.1 hc)).trans ?_))
    rw [← discarded_frameIn, configured_eq]
    rfl
  · exact refuses_of_owner rfl hb (if_pos hn)
  · exact refuses_of_owner rfl hb ((if_neg (Nat.not_le.2 hn)).trans (if_pos hs))
  · exact refuses_of_owner rfl hb ((if_neg (Nat.not_le.2 hn)).trans ((if_neg (not_not.2 hs)).trans (if_pos (busy hr))))
  · exact refuses_of_owner rfl hb ((probes hn hs hr).trans (if_neg (mt mayProbe.1 hp)))
  · refine holds_of_owner rfl hb ((probes hn hs hr).trans ((if_pos (mayProbe.2 hp)).trans ?_))
    rw [← discarded_frameIn]
    rfl
  · exact refuses_of_owner rfl hb (if_pos hn)
  · exact accepts_plain rfl hb (if_neg (Nat.not_le.2 hn))

end Sys2Proof.Machine.Program
end

section
/-! FLOAT_LIMITS, RUN_COUNTERS_READ and HISTORY_READ (R109, R110, R125). -/

namespace Sys2Proof.Machine.Program

open Sys2Proof Sys2Proof.Machine

variable {s : State}

/-! ### FLOAT_LIMITS -/

/-- The discard rests on nothing of the float limiter. -/
theorem discarded_flm (s : State) (x : Flm) : State.discarded { s with flm := x } = { s.discarded with flm := x } := by
  unfold State.discarded
  dsimp only
  split <;> rfl

/-- FLOAT_LIMITS taken in STOPPED: the limit and the counters rebuilt under it, the staging record gone (R109, R107, R93, R95). -/
theorem takeFloatLimits_stopped (limit : Byte) (stopped : s.stu.weaving = .stopped) :
    takeFloatLimits limit s =
      let l := clampedLwarp limit.toNat
      let after : State := { s with flm := { lwarp := l, runs := rebuiltRuns s.ph l } }
      .acceptClamped (decide (l ≠ limit.toNat)) after.limitsPayload after.discarded := by
  let f (u : State) := State.rebuildRuns { u with flm.lwarp := clampedLwarp limit.toNat }
  have commutes : f s.discarded = (f s).discarded := by
    have ph : s.discarded.ph = s.ph := by simp
    simp only [f, State.rebuildRuns, discarded_flm, ph]
  have left : (f s.abandonWork).invalidate = (f s).discarded :=
    abandoned_invalidated stopped (fun _ => rfl) (fun _ => rfl) commutes
  have limits : (f s.abandonWork).limitsPayload = (f s).limitsPayload := by
    have flm : (f s.abandonWork).flm = (f s).flm := by simp [f, State.rebuildRuns]
    simp only [State.limitsPayload, flm]
  unfold takeFloatLimits
  rw [if_neg (not_not.2 stopped)]
  exact congrArg₂ (Taken.acceptClamped _) limits left

/-! ### RUN_COUNTERS_READ -/

/-- Whether staging run counters stand: from COMPOSED on (R100). -/
theorem staged_eq (s : State) :
    (match s.pcm.staging with
      | none => false
      | some ⟨_, .composing _⟩ => false
      | some _ => true) = s.pcm.staging.any fun st => st.phase.runs?.isSome := by
  cases s.pcm.staging with
  | none => rfl
  | some st =>
    obtain ⟨p, phase⟩ := st
    cases phase <;> rfl

/-! ### HISTORY_READ -/

/-- The bit that hook `j` of a byte takes (R182). -/
theorem getLsbD_place {j i : Nat} (hj : j < 8) (hi : i < 8) : (1#8 <<< (7 - j)).getLsbD i = decide (7 - i = j) := by
  rw [← BitVec.twoPow_eq, BitVec.getLsbD_twoPow, decide_eq_true (show 7 - j < 8 by omega), Bool.true_and, decide_eq_decide]
  omega

/-- A byte put together bit by bit, the first in bit 7 (R182). -/
theorem getLsbD_foldl_bits (p : Nat → Prop) [DecidablePred p] {n i : Nat} (hn : n ≤ 8) (hi : i < 8) :
    ((List.range n).foldl (fun b j => if p j then b ||| 1#8 <<< (7 - j) else b) 0#8).getLsbD i =
      (decide (7 - i < n) && decide (p (7 - i))) := by
  induction n with
  | zero => simp
  | succ n ih =>
    rw [List.range_succ, List.foldl_append, List.foldl_cons, List.foldl_nil]
    have ih := ih (by omega)
    have place := getLsbD_place (show n < 8 by omega) hi
    by_cases last : 7 - i = n
    · split
      · next hp => rw [BitVec.getLsbD_or, place, last]; simp [hp]
      · next hp => rw [ih, last]; simp [hp]
    · have same : decide (7 - i < n + 1) = decide (7 - i < n) := by
        rw [decide_eq_decide]
        omega
      split
      · rw [BitVec.getLsbD_or, ih, place, same, decide_eq_false last, Bool.or_false]
      · rw [ih, same]

/-- A lift packed eight hooks to a byte, the lowest in bit 7, the rest of the last byte 0 (R182). -/
theorem packLift_bits (l : Lift) (first count : Nat) :
    (packLift l first count).length = (count + 7) / 8 ∧
    ∀ i, i < 8 * (packLift l first count).length →
      ((packLift l first count).getD (i / 8) 0).getLsbD (7 - i % 8) = (decide (i < count) && l.getLsbD (first + i)) := by
  have length : (packLift l first count).length = (count + 7) / 8 := by simp [packLift]
  refine ⟨length, fun i hi => ?_⟩
  have byte : i / 8 < (packLift l first count).length := by omega
  rw [List.getD_eq_getElem _ _ byte]
  simp only [packLift, List.getElem_map, List.getElem_range]
  rw [getLsbD_foldl_bits _ (Nat.le_refl 8) (by omega)]
  have place : 7 - (7 - i % 8) = i % 8 := by omega
  have sum : first + 8 * (i / 8) + i % 8 = first + i := by omega
  simp only [place, sum, Nat.div_add_mod]
  simp [show i % 8 < 8 by omega]

/-- The record of an age: 0 is the shed, then the ring from its new end (R113). -/
theorem record_eq (ph : Ph) (age : Byte) :
    ph.record age.toNat = if age = 0 then ph.shed else ph.ring.reverse[age.toNat - 1]? := by
  by_cases h : age = 0
  · subst h
    rfl
  · obtain ⟨n, hn⟩ : ∃ n, age.toNat = n + 1 := Nat.exists_eq_succ_of_ne_zero (by bv_omega)
    rw [if_neg h, hn]
    rfl

/-- HISTORY_READ of fields in range (R125). -/
theorem takeHistoryRead_inside {age : Byte} {first count : BitVec 16}
    (inside : age.toNat ≤ 96 ∧ first.toNat < 12288 ∧ count.toNat ≤ 4096 ∧ first.toNat + count.toNat ≤ 12288) :
    takeHistoryRead age first count s =
      (s.ph.record age.toNat).elim (.refuse .notFound s) fun p =>
        .accept (u8 s.ph.ring.length ++ uFlag s.ph.origin ++ u8 s.ph.reach ++ uFlag s.ph.shed.isSome ++
          uOpt 4 (fun (x : Representation) => bytes32 x.g) s.ph.representing ++ p.payload ++
          packLift p.lift first.toNat count.toNat) s := by
  have range : ¬ (96 < age.toNat ∨ 12288 ≤ first.toNat ∨ 4096 < count.toNat ∨ 12288 < first.toNat + count.toNat) := by omega
  refine (if_neg range).trans ?_
  cases s.ph.record age.toNat <;> rfl

/-- Settles O50: the limit stored with the counters rebuilt, and the two reads, each after its tests. -/
theorem limitsAndRecords : Obligations.LimitsAndRecords := by
  intro s hb
  refine ⟨?_, ?_, ?_⟩
  · intro limit l runs
    refine ⟨fun running => refuses_of_owner rfl hb (if_pos running), fun stopped => ?_, fun h hh => ⟨fun none => ?_, fun p hp => ?_⟩⟩
    · refine accepts_plain rfl hb ((takeFloatLimits_stopped (s := s.frameIn _) limit stopped).trans ?_)
      have detail : (if decide (l ≠ limit.toNat) then Detail.clamped else .plain) = if l = limit.toNat then .plain else .clamped := by
        by_cases h : l = limit.toNat <;> simp [h]
      rw [← discarded_frameIn, ← detail]
      rfl
    · simp only [runs, rebuiltRuns, none]
      rfl
    · exact runOf_rebuiltRuns l hp rfl hh
  · intro first count inside
    refine ⟨fun outside => refuses_of_owner rfl hb (if_pos ?_), fun within => accepts_plain rfl hb ((if_neg ?_).trans ?_)⟩
    · simp only [inside] at outside
      rw [Config.hookCount]
      omega
    · simp only [inside] at within
      rw [Config.hookCount]
      omega
    · rw [← staged_eq]
      rfl
  · intro age first count c inside record reach
    have found : (s.frameIn (frameOf c)).ph.record age.toNat = record := record_eq s.ph age
    refine ⟨fun outside => refuses_of_owner rfl hb (if_pos ?_), fun within none => ?_, fun p within some => ?_⟩
    · simp only [inside] at outside
      rw [Config.hookCount]
      omega
    · refine refuses_of_owner rfl hb ((takeHistoryRead_inside within).trans ?_)
      rw [found, none]
      rfl
    · obtain ⟨length, bits⟩ := packLift_bits p.lift first.toNat count.toNat
      refine ⟨packLift p.lift first.toNat count.toNat, length, bits, accepts_plain rfl hb ((takeHistoryRead_inside within).trans ?_)⟩
      rw [found, some]
      rfl

end Sys2Proof.Machine.Program
end

section
/-! The float stage hook by hook and in counts (R101, R102, R103): one section, then the sections together. -/

namespace Sys2Proof.Machine.Program

open Sys2Proof Sys2Proof.Machine

/-! ### Runs of lowered hooks (R102) -/

/-- No hook stands before the first. -/
theorem runBefore_first (l : Nat → Bool) (f : Nat) : runBefore l f f = 0 := by simp [runBefore]

/-- The run after a hook: none after a raised one, one more after a lowered one. -/
theorem runBefore_succ (l : Nat → Bool) {f h : Nat} (hf : f ≤ h) :
    runBefore l f (h + 1) = if l h then 0 else runBefore l f h + 1 := by
  have last : List.range (h + 1 - f) = List.range (h - f) ++ [h - f] := by rw [Nat.succ_sub hf, List.range_succ]
  rw [runBefore, last, List.reverse_append, List.reverse_singleton, List.singleton_append, List.takeWhile_cons, Nat.add_sub_cancel' hf]
  cases l h <;> rfl

/-- A section without hooks leaves no run. -/
theorem longRuns_empty (lw : Nat) (l : Nat → Bool) (f : Nat) : longRuns lw l f 0 = 0 := by
  rw [longRuns, List.countP_eq_zero]
  simp [runBefore_first]

/-! ### Counts over the places of a list -/

/-- A count over one place more, the first apart. -/
theorem countP_range_succ_first (p : Nat → Bool) (n : Nat) :
    (List.range (n + 1)).countP p = (if p 0 then 1 else 0) + (List.range n).countP fun i => p (i + 1) := by
  rw [List.range_succ_eq_map, List.countP_cons, List.countP_map, Nat.add_comm]
  rfl

/-- The hooks the warp stage forces down (R101). -/
theorem warpStage_down (bar : Nat → Bool) (h : Nat) (bits : List Bool) :
    (warpStage bar h bits).2 = (List.range bits.length).countP fun i => bits.getD i false && bar (h + i) := by
  induction bits generalizing h with
  | nil => rfl
  | cons b rest ih =>
    have next : (fun i => rest.getD i false && bar (h + 1 + i)) = fun i => (b :: rest).getD (i + 1) false && bar (h + (i + 1)) := by
      funext i
      rw [List.getD_cons_succ, Nat.add_assoc, Nat.add_comm 1]
    rw [List.length_cons, countP_range_succ_first, ← next, ← ih, List.getD_cons_zero, Nat.add_zero, warpStage]
    split <;> omega

/-! ### The weft scan (R102) -/

/-- One hook scanned, over the lift `l` the scan leaves: its value, and what it adds to the two counts. -/
theorem weftScan_first (lw : Nat) (bar l : Nat → Bool) {f h : Nat} (hf : f ≤ h) {b : Bool} {rest : List Bool} {x : SectionFloat}
    (hx : x = weftScan lw bar h (runBefore l f h) (b :: rest)) (first : l h = x.bits.getD 0 false) :
    let y := weftScan lw bar (h + 1) (runBefore l f (h + 1)) rest
    x.bits = l h :: y.bits ∧ l h = (b || (!bar h && decide (lw ≤ runBefore l f h))) ∧
      x.up = (if l h && !b then 1 else 0) + y.up ∧
      x.unresolved = (if l h && decide (lw < runBefore l f h) then 1 else 0) + y.unresolved := by
  intro y
  have onward := runBefore_succ l hf
  cases b with
  | true =>
    rw [weftScan] at hx
    subst hx
    replace first : l h = true := first
    have y_eq : y = weftScan lw bar (h + 1) 0 rest := by simp only [y, onward, first, if_true]
    simp [y_eq, first, overrun]
  | false =>
    rw [weftScan] at hx
    by_cases low : runBefore l f h < lw ∨ bar h = true
    · rw [if_pos low] at hx
      subst hx
      replace first : l h = false := first
      have y_eq : y = weftScan lw bar (h + 1) (runBefore l f h + 1) rest := by simp [y, onward, first]
      refine ⟨by rw [first, y_eq], ?_, by simp [first, y_eq], by simp [first, y_eq]⟩
      rcases low with below | barred
      · simp [first, Nat.not_le.2 below]
      · simp [first, barred]
    · rw [if_neg low] at hx
      subst hx
      replace first : l h = true := first
      have y_eq : y = weftScan lw bar (h + 1) 0 rest := by simp only [y, onward, first, if_true]
      obtain ⟨reached, free⟩ := not_or.1 low
      simp [y_eq, first, overrun, Nat.not_lt.1 reached, free, Nat.add_comm]

/-- The weft scan of the hooks from `h` on, over the lift `l` it leaves: which hooks are raised, and the two counts. -/
theorem weftScan_spec (lw : Nat) (bar l : Nat → Bool) {f h : Nat} (hf : f ≤ h) (bits : List Bool) {x : SectionFloat}
    (hx : x = weftScan lw bar h (runBefore l f h) bits) (hl : ∀ i, i < bits.length → l (h + i) = x.bits.getD i false) :
    (∀ i, i < bits.length → l (h + i) = (bits.getD i false || (!bar (h + i) && decide (lw ≤ runBefore l f (h + i))))) ∧
    x.up = ((List.range bits.length).countP fun i => l (h + i) && !bits.getD i false) ∧
    x.unresolved = (List.range (bits.length + 1)).countP fun j =>
      (decide (j = bits.length) || l (h + j)) && decide (lw < runBefore l f (h + j)) := by
  induction bits generalizing h x with
  | nil =>
    subst hx
    refine ⟨nofun, rfl, ?_⟩
    simp [weftScan, overrun]
  | cons b rest ih =>
    obtain ⟨bits, value, up, unresolved⟩ := weftScan_first lw bar l hf hx (hl 0 (Nat.succ_pos _))
    have shift (i : Nat) : h + 1 + i = h + (i + 1) := by omega
    obtain ⟨values, ups, runs⟩ := ih (h := h + 1) (by omega) rfl fun i hi => by
      rw [shift, hl (i + 1) (Nat.succ_lt_succ hi), bits, List.getD_cons_succ]
    simp only [shift] at values ups runs
    refine ⟨fun i hi => ?_, ?_, ?_⟩
    · cases i with
      | zero => exact value
      | succ i => exact values i (Nat.lt_of_succ_lt_succ hi)
    · rw [up, ups, List.length_cons, countP_range_succ_first]
      rfl
    · rw [unresolved, runs, List.length_cons, countP_range_succ_first (n := rest.length + 1)]
      simp

/-! ### The float stage on a section -/

/-- The float stage forces down what its warp stage does. -/
theorem floatSection_down (bar : Nat → Bool) (sec : Section) (bits : List Bool) :
    (floatSection bar sec bits).down = (warpStage bar sec.f bits).2 := by
  simp only [floatSection]
  split <;> rfl

/-- What the float stage makes of a section whose hooks are composed as `composed` and left as `l`: the hooks raised and the three counts. -/
theorem floatSection_spec {bar composed l : Nat → Bool} {sec : Section} {bits : List Bool} (hc : bits.length = sec.c)
    (before : ∀ j, j < sec.c → composed (sec.f + j) = bits.getD j false)
    (after : ∀ j, j < sec.c → l (sec.f + j) = (floatSection bar sec bits).bits.getD j false) :
    let x := floatSection bar sec bits
    (∀ j, j < sec.c → l (sec.f + j) =
      (!bar (sec.f + j) && (composed (sec.f + j) || decide (sec.lw ≠ 0 ∧ sec.lw ≤ runBefore l sec.f (sec.f + j))))) ∧
    x.down = ((List.range sec.c).countP fun j => composed (sec.f + j) && bar (sec.f + j)) ∧
    x.up = ((List.range sec.c).countP fun j => l (sec.f + j) && !composed (sec.f + j)) ∧
    x.unresolved = if sec.lw = 0 then 0 else longRuns sec.lw l sec.f sec.c := by
  intro x
  obtain ⟨length, warp⟩ := warpStage_bits bar sec.f bits
  have warped (j : Nat) (hj : j < sec.c) : (warpStage bar sec.f bits).1.getD j false = (composed (sec.f + j) && !bar (sec.f + j)) := by
    rw [warp, before j hj]
  have down : x.down = (List.range sec.c).countP fun j => composed (sec.f + j) && bar (sec.f + j) := by
    rw [floatSection_down, warpStage_down, hc]
    refine List.countP_congr fun j hj => ?_
    rw [before j (List.mem_range.1 hj)]
  by_cases unlimited : sec.lw = 0
  · have x_eq : x = { bits := (warpStage bar sec.f bits).1, down := (warpStage bar sec.f bits).2, up := 0, unresolved := 0 } :=
      if_pos unlimited
    have values (j : Nat) (hj : j < sec.c) : l (sec.f + j) = (composed (sec.f + j) && !bar (sec.f + j)) := by
      rw [after j hj, ← warped j hj]
      exact congrArg (fun y : SectionFloat => y.bits.getD j false) x_eq
    refine ⟨fun j hj => ?_, down, ?_, by rw [x_eq, if_pos unlimited]⟩
    · rw [values j hj]
      simp [unlimited, Bool.and_comm]
    · rw [x_eq, eq_comm, List.countP_eq_zero]
      intro j hj
      rw [values j (List.mem_range.1 hj)]
      cases composed (sec.f + j) <;> simp
  · have x_eq : x = { weftScan sec.lw bar sec.f 0 (warpStage bar sec.f bits).1 with down := (warpStage bar sec.f bits).2 } :=
      if_neg unlimited
    have kept : x.bits = (weftScan sec.lw bar sec.f 0 (warpStage bar sec.f bits).1).bits := by rw [x_eq]
    obtain ⟨values, up, unresolved⟩ := weftScan_spec sec.lw bar l (Nat.le_refl sec.f) (warpStage bar sec.f bits).1
      (congrArg (weftScan sec.lw bar sec.f · _) (runBefore_first l sec.f).symm) fun j hj => by
        rw [length, hc] at hj
        exact (after j hj).trans (congrArg (·.getD j false) kept)
    rw [length, hc] at values up unresolved
    have values (j : Nat) (hj : j < sec.c) : l (sec.f + j) =
        (!bar (sec.f + j) && (composed (sec.f + j) || decide (sec.lw ≠ 0 ∧ sec.lw ≤ runBefore l sec.f (sec.f + j)))) := by
      rw [values j hj, warped j hj]
      simp only [unlimited, ne_eq, not_false_eq_true, true_and]
      cases composed (sec.f + j) <;> cases bar (sec.f + j) <;> rfl
    refine ⟨values, down, ?_, ?_⟩
    · rw [x_eq]
      refine up.trans (List.countP_congr fun j hj => ?_)
      have hj := List.mem_range.1 hj
      rw [warped j hj, values j hj]
      cases bar (sec.f + j) <;> simp
    · rw [if_neg unlimited, x_eq]
      exact unresolved

/-- With no limit set the float stage leaves a section as composed, and counts nothing. -/
theorem floatSection_unlimited (sec : Section) (bits : List Bool) :
    let x := floatSection (fun _ => false) { sec with lw := 0 } bits
    (∀ j, x.bits.getD j false = bits.getD j false) ∧ x.down = 0 ∧ x.up = 0 ∧ x.unresolved = 0 := by
  refine ⟨fun j => ?_, ?_, rfl, rfl⟩
  · exact ((warpStage_bits _ sec.f bits).2 j).trans (Bool.and_true _)
  · rw [floatSection_down, warpStage_down, List.countP_eq_zero]
    simp

/-! ### The sections together -/

/-- A count over two conditions of which no place has both. -/
theorem countP_or_of_disjoint {p q : Nat → Bool} (disjoint : ∀ h, p h = true → q h = false) (l : List Nat) :
    l.countP (fun h => p h || q h) = l.countP p + l.countP q := by
  induction l with
  | nil => rfl
  | cons h rest ih =>
    have := disjoint h
    simp only [List.countP_cons, ih]
    cases hp : p h <;> cases hq : q h <;> simp_all <;> omega

/-- The hooks of one section, counted among all. -/
theorem countP_covered (x : Section) (p : Nat → Bool) (inside : ∀ h, x.covers h = true → h < 12288) :
    (List.range 12288).countP (fun h => x.covers h && p h) = (List.range x.c).countP fun j => p (x.f + j) := by
  by_cases empty : x.c = 0
  · rw [empty, List.range_zero, List.countP_nil, List.countP_eq_zero]
    intro h _
    simp [Section.covers, empty]
  · have bound : x.f + x.c ≤ 12288 := by
      have := inside (x.f + x.c - 1) ((covers_iff x _).2 (by omega))
      omega
    obtain ⟨rest, hrest⟩ := Nat.exists_eq_add_of_le bound
    have low : (List.range x.f).countP (fun h => x.covers h && p h) = 0 := by
      rw [List.countP_eq_zero]
      intro h hh
      have := List.mem_range.1 hh
      simp [Section.covers, show ¬ x.f ≤ h by omega]
    have high : ((List.range rest).map (x.f + x.c + ·)).countP (fun h => x.covers h && p h) = 0 := by
      rw [List.countP_map, List.countP_eq_zero]
      intro h _
      simp [Section.covers]
    have within : ((List.range x.c).map (x.f + ·)).countP (fun h => x.covers h && p h) = (List.range x.c).countP fun j => p (x.f + j) := by
      rw [List.countP_map]
      refine List.countP_congr fun j hj => ?_
      simp [Section.covers, List.mem_range.1 hj]
    rw [hrest, List.range_add, List.range_add, List.countP_append, List.countP_append, low, high, within]
    omega

/-- A count over hooks that lie in sections apart is the sum of the sections' counts. -/
theorem countP_sections {s : State} (apart : SectionsApart s) {p : Nat → Bool}
    (inSection : ∀ h, h < 12288 → p h = true → ∃ i, i < 8 ∧ (s.section i).covers h = true) :
    (List.range 12288).countP p =
      ((List.range 8).map fun i => (List.range (s.section i).c).countP fun j => p ((s.section i).f + j)).sum := by
  obtain ⟨disjoint, existing⟩ := apart
  have first (n : Nat) (hn : n ≤ 8) :
      (List.range 12288).countP (fun h => (List.range n).any fun i => (s.section i).covers h && p h) =
        ((List.range n).map fun i => (List.range (s.section i).c).countP fun j => p ((s.section i).f + j)).sum := by
    induction n with
    | zero => simp
    | succ n ih =>
      simp only [List.range_succ (n := n), List.any_append, List.any_cons, List.any_nil, Bool.or_false, List.map_append, List.sum_append,
        List.map_cons, List.map_nil, List.sum_singleton]
      rw [countP_or_of_disjoint, ih (by omega), countP_covered]
      · intro h covered
        exact ((hookExists_iff s h).1 (existing n (by omega) (by rw [covers_iff] at covered; omega) h covered)).1
      · intro h earlier
        simp only [List.any_eq_true, List.mem_range, Bool.and_eq_true] at earlier
        obtain ⟨i, hi, covered, -⟩ := earlier
        have : (s.section n).covers h = false := by
          rw [Bool.eq_false_iff]
          intro both
          have := disjoint i n (by omega) (by omega) (by omega)
          rw [Bool.eq_false_iff] at this
          exact this ((overlaps_iff _ _).2 ⟨h, covered, both⟩)
        rw [this, Bool.false_and]
  rw [← first 8 (Nat.le_refl 8)]
  refine List.countP_congr fun h hh => ?_
  simp only [List.any_eq_true, List.mem_range, Bool.and_eq_true]
  constructor
  · intro hp
    obtain ⟨i, hi, covered⟩ := inSection h (List.mem_range.1 hh) hp
    exact ⟨i, hi, covered, hp⟩
  · rintro ⟨-, -, -, hp⟩
    exact hp

end Sys2Proof.Machine.Program
end

section
/-! The end of a composition and the transfer it may begin (R82, R85, R101 to R103, R132). -/

namespace Sys2Proof.Machine.Program

open Sys2Proof Sys2Proof.Machine

/-! ### The sections a composition works on, in order -/

/-- The sections of count above 0 with what the float stage leaves of each, in section order (R82). -/
theorem floated_eq (s : State) (p : Pick) (r : Reads) :
    s.floated p r = ((List.range 8).filter fun i => 0 < (s.section i).c).map fun i => (s.section i, sectionFloated s p r i) := by
  have pairs : pairReads s.pcm.sections.toList r.rows = (List.range 8).map fun i => (s.section i, sectionRow s r.rows i) := by
    refine List.ext_getElem? fun i => ?_
    rw [pairReads_getElem?, sections_toList, List.getElem?_map, List.getElem?_map]
    by_cases hi : i < 8
    · rw [List.getElem?_range hi, ← List.map_take, List.countP_map, List.take_range, Nat.min_eq_left (Nat.le_of_lt hi)]
      rfl
    · rw [List.getElem?_eq_none (by simpa using hi)]
      rfl
  rw [State.floated, pairs, List.filter_map, List.map_map]
  rfl

/-- A count of the record is the sum of the sections' counts, a section without hooks counting nothing (R103). -/
theorem sum_floated (s : State) (p : Pick) (r : Reads) (count : SectionFloat → Nat) (g : Nat → Nat)
    (counted : ∀ i, i < 8 → count (sectionFloated s p r i) = g i) (empty : ∀ i, (s.section i).c = 0 → g i = 0) :
    ((s.floated p r).map fun y => count y.2).sum = ((List.range 8).map g).sum := by
  have all (l : List Nat) (hl : ∀ i ∈ l, i < 8) :
      ((l.filter fun i => 0 < (s.section i).c).map fun i => count (sectionFloated s p r i)).sum = (l.map g).sum := by
    induction l with
    | nil => rfl
    | cons i rest ih =>
      obtain ⟨hi, hrest⟩ := List.forall_mem_cons.1 hl
      by_cases hc : 0 < (s.section i).c
      · rw [List.filter_cons_of_pos (by simpa using hc), List.map_cons, List.sum_cons, List.map_cons, List.sum_cons, counted i hi, ih hrest]
      · rw [List.filter_cons_of_neg (by simpa using hc), ih hrest, List.map_cons, List.sum_cons, empty i (by omega), Nat.zero_add]
  rw [floated_eq, List.map_map]
  exact all _ fun i => List.mem_range.1

/-- A hook in no section is lowered (R91). -/
theorem lift_of_uncovered {s : State} {p : Pick} {r : Reads} {h : Nat} (hh : h < 12288)
    (none : ∀ i, i < 8 → (s.section i).covers h = false) : (composedPick p (s.floated p r)).lift.getLsbD h = false := by
  rw [composedPick, getLsbD_liftOf _ hh, List.any_eq_false]
  rintro _ hy
  obtain ⟨i, hi, -, rfl⟩ := (mem_floated s p r _).1 hy
  have outside := none i hi
  rw [Bool.and_eq_true, decide_eq_true_eq]
  rintro ⟨low, raised⟩
  replace low : (s.section i).f ≤ h := low
  have past : (sectionFloated s p r i).bits.length ≤ h - (s.section i).f := by
    rw [sectionFloated, (floatSection_bits ..).1, Composition.sectionBits, List.length_map, List.length_range]
    rw [Bool.eq_false_iff, Ne, covers_iff] at outside
    omega
  rw [List.getD_eq_default _ _ past] at raised
  cases raised

/-! ### The same composition with no limit set -/

/-- The state with no limit set: neither Lwarp nor a section's Lw (R101, R102). -/
def unlimited (s : State) : State := { s with flm.lwarp := 0, pcm.sections := s.pcm.sections.map fun y => { y with lw := 0 } }

theorem unlimited_section (s : State) {i : Nat} (hi : i < 8) : (unlimited s).section i = { s.section i with lw := 0 } := by
  simp [unlimited, State.section, tabGet, hi]

theorem unlimited_covers (s : State) {i : Nat} (hi : i < 8) (h : Nat) : ((unlimited s).section i).covers h = (s.section i).covers h := by
  rw [unlimited_section s hi]
  rfl

/-- The row reads go to the same sections. -/
theorem unlimited_rowIndex (s : State) {i : Nat} (hi : i ≤ 8) : rowIndex (unlimited s) i = rowIndex s i := by
  refine List.countP_congr fun k hk => ?_
  rw [unlimited_section s (Nat.lt_of_lt_of_le (List.mem_range.1 hk) hi)]
  rfl

theorem unlimited_designSections (s : State) : (unlimited s).designSections = s.designSections := by
  rw [designSections_eq, designSections_eq, unlimited_rowIndex s (Nat.le_refl 8)]

/-- No limit has a part in the reads of a composition. -/
theorem unlimited_readsTo (s : State) (p : Pick) (r : Reads) (n : Nat) : (unlimited s).readsTo p n r = s.readsTo p n r := by
  cases n with
  | zero => rfl
  | succ n =>
    rw [State.readsTo, State.readsTo, unlimited_designSections]
    rfl

/-- A section's values as composed, before the float stage (R85). -/
def sectionComposed (s : State) (p : Pick) (r : Reads) (i : Nat) : List Bool :=
  (s.composition p r).sectionBits (sectionRow s r.rows i) (s.section i)

theorem sectionComposed_length (s : State) (p : Pick) (r : Reads) (i : Nat) : (sectionComposed s p r i).length = (s.section i).c := by
  simp [sectionComposed, Composition.sectionBits]

/-- A section of the same composition with no limit set is left as composed. -/
theorem unlimited_sectionFloated (s : State) (p : Pick) (r : Reads) {i : Nat} (hi : i < 8) :
    sectionFloated (unlimited s) p r i = floatSection (fun _ => false) { s.section i with lw := 0 } (sectionComposed s p r i) := by
  have bar : barred (unlimited s).flm.lwarp (unlimited s).flm.runs = fun _ => false := by
    funext h
    exact decide_eq_false fun limited => limited.1 rfl
  have row : sectionRow (unlimited s) r.rows i = sectionRow s r.rows i := by
    rw [sectionRow, sectionRow, unlimited_rowIndex s (Nat.le_of_lt hi), unlimited_section s hi]
    rfl
  rw [sectionFloated, bar, row, unlimited_section s hi]
  rfl

/-- With no limit set nothing is forced and no run is left (R103). -/
theorem unlimited_counts (s : State) (p : Pick) (r : Reads) :
    let y := composedPick p ((unlimited s).floated p r)
    (y.forcedDown, y.forcedUp, y.unresolved) = (0, 0, 0) := by
  have counts (count : SectionFloat → Nat) (zero : ∀ i, i < 8 → count (sectionFloated (unlimited s) p r i) = 0) :
      (((unlimited s).floated p r).map fun y => count y.2).sum = 0 :=
    (sum_floated _ p r count (fun _ => 0) zero fun _ _ => rfl).trans (by simp)
  have stage (i : Nat) (hi : i < 8) :=
    unlimited_sectionFloated s p r hi ▸ (floatSection_unlimited (s.section i) (sectionComposed s p r i)).2
  refine Prod.ext ?_ (Prod.ext ?_ ?_)
  · exact counts (·.down) fun i hi => (stage i hi).1
  · exact counts (·.up) fun i hi => (stage i hi).2.1
  · exact counts (·.unresolved) fun i hi => (stage i hi).2.2

/-! ### The float stage on the sections together -/

/-- A hook that a section covers exists, and no other section covers it. -/
theorem alone_of_apart {s : State} (apart : SectionsApart s) {i h : Nat} (hi : i < 8) (covered : (s.section i).covers h = true) :
    h < 12288 ∧ ∀ j, j < 8 → j ≠ i → (s.section j).covers h = false := by
  obtain ⟨disjoint, existing⟩ := apart
  have counted : 0 < (s.section i).c := by
    rw [covers_iff] at covered
    omega
  refine ⟨((hookExists_iff s h).1 (existing i hi counted h covered)).1, fun j hj other => ?_⟩
  have := disjoint j i hj hi other
  rw [Bool.eq_false_iff, Ne, overlaps_iff] at this
  rw [Bool.eq_false_iff]
  exact fun both => this ⟨h, both, covered⟩

/-- A raised hook lies in a section (R91). -/
theorem covered_of_raised {s : State} {p : Pick} {r : Reads} {h : Nat} (hh : h < 12288)
    (raised : (composedPick p (s.floated p r)).lift.getLsbD h = true) : ∃ i, i < 8 ∧ (s.section i).covers h = true := by
  by_contra none
  rw [lift_of_uncovered hh fun i hi => Bool.eq_false_iff.2 fun covered => none ⟨i, hi, covered⟩] at raised
  cases raised

/-- The lift on a section, in the section's order (R85). -/
theorem lift_of_apart {s : State} (p : Pick) (r : Reads) (apart : SectionsApart s) {i j : Nat} (hi : i < 8) (hj : j < (s.section i).c) :
    (composedPick p (s.floated p r)).lift.getLsbD ((s.section i).f + j) = (sectionFloated s p r i).bits.getD j false := by
  have covered : (s.section i).covers ((s.section i).f + j) = true := (covers_iff _ _).2 (by omega)
  obtain ⟨hh, alone⟩ := alone_of_apart apart hi covered
  rw [lift_of_alone hi hh covered alone, Nat.add_sub_cancel_left]

/-- The lift with no limit set is the sections' values as composed. -/
theorem unlimited_lift_of_apart {s : State} (p : Pick) (r : Reads) (apart : SectionsApart s) {i j : Nat} (hi : i < 8)
    (hj : j < (s.section i).c) :
    (composedPick p ((unlimited s).floated p r)).lift.getLsbD ((s.section i).f + j) = (sectionComposed s p r i).getD j false := by
  have covered : (s.section i).covers ((s.section i).f + j) = true := (covers_iff _ _).2 (by omega)
  obtain ⟨hh, alone⟩ := alone_of_apart apart hi covered
  rw [lift_of_alone hi hh ((unlimited_covers s hi _).trans covered) fun k hk other => (unlimited_covers s hk _).trans (alone k hk other),
    unlimited_sectionFloated s p r hi, unlimited_section s hi, Nat.add_sub_cancel_left]
  exact (floatSection_unlimited _ _).1 j

/-- With sections apart the record is what the float stage makes of the lift composed with no limit set (R101, R102, R103). -/
theorem floatStage_of_apart {s : State} (p : Pick) (r : Reads) (apart : SectionsApart s) :
    FloatStage s (composedPick p ((unlimited s).floated p r)).lift (composedPick p (s.floated p r)) := by
  let composed := (composedPick p ((unlimited s).floated p r)).lift.getLsbD
  let l := (composedPick p (s.floated p r)).lift.getLsbD
  let bar := barred s.flm.lwarp s.flm.runs
  have stage (i : Nat) (hi : i < 8) := floatSection_spec (bar := bar) (composed := composed) (l := l)
    (sectionComposed_length s p r i) (fun j => unlimited_lift_of_apart p r apart hi) fun j => lift_of_apart p r apart hi
  refine ⟨fun i h hi covered => ?_, ?_, ?_, ?_⟩
  · obtain ⟨low, high⟩ := (covers_iff _ _).1 covered
    have value := (stage i hi).1 (h - (s.section i).f) (by omega)
    rw [Nat.add_sub_cancel' low] at value
    exact value
  · refine (sum_floated s p r (·.down) _ (fun i hi => (stage i hi).2.1) fun i hc => by rw [hc]; rfl).trans
      (countP_sections (p := fun h => composed h && bar h) apart fun h hh both => ?_).symm
    obtain ⟨i, hi, covered⟩ := covered_of_raised (s := unlimited s) hh (Bool.and_eq_true_iff.1 both).1
    exact ⟨i, hi, unlimited_covers s hi h ▸ covered⟩
  · refine (sum_floated s p r (·.up) _ (fun i hi => (stage i hi).2.2.1) fun i hc => by rw [hc]; rfl).trans
      (countP_sections (p := fun h => l h && !composed h) apart fun h hh both => ?_).symm
    exact covered_of_raised hh (Bool.and_eq_true_iff.1 both).1
  · refine sum_floated s p r (·.unresolved) _ (fun i hi => (stage i hi).2.2.2) fun i hc => ?_
    rw [hc, longRuns_empty, ite_self]

end Sys2Proof.Machine.Program
end

section
/-! A transfer begins (R132), and the end of a composition with it (R82, R85, R90, R91). -/

namespace Sys2Proof.Machine.Program

open Sys2Proof Sys2Proof.Machine

variable {s : State} {x : Pick} {runs : Runs}

/-! ### A transfer begins (R132) -/

/-- What a transfer that begins may change. -/
theorem tryTransfer_eq (s : State) : s.tryTransfer = { s with pcm := s.tryTransfer.pcm, hcu := s.tryTransfer.hcu } := by
  obtain ⟨stu, pq, ps, wct, flm, ph, hft, wsu, dlp, llp, evs, free, pending⟩ := State.tryTransfer_frame (s := s)
  generalize s.tryTransfer = t at *
  rw [← stu, ← pq, ← ps, ← wct, ← flm, ← ph, ← hft, ← wsu, ← dlp, ← llp, ← evs, ← free, ← pending]

/-- Nothing begins without a COMPOSED record. -/
theorem tryTransfer_not_composed (h : ∀ x runs, s.pcm.staging ≠ some ⟨x, .composed runs⟩) : s.tryTransfer = s := by
  unfold State.tryTransfer
  split
  · next x runs composed => exact absurd composed (h x runs)
  · rfl

/-- Nothing begins outside RUNNING or before the transfer is due. -/
theorem tryTransfer_not_due (h : s.stu.weaving ≠ .running ∨ s.hcu.transferDue = false) : s.tryTransfer = s := by
  unfold State.tryTransfer
  split
  · refine if_neg ?_
    rintro ⟨running, due⟩
    exact h.elim (· running) fun not => Bool.false_ne_true (not.symm.trans due)
  · rfl

/-- The transfer of a COMPOSED record begins in RUNNING when it is due. -/
theorem tryTransfer_begins (composed : s.pcm.staging = some ⟨x, .composed runs⟩) (running : s.stu.weaving = .running)
    (due : s.hcu.transferDue = true) (quiet : s.shifting .transfer = false) : TransferBegins s s.tryTransfer x runs := by
  let d : State := { s.shiftAll .transfer x.lift with pcm.staging := some ⟨x, .transferring runs⟩ }
  have chain (i : Nat) (hi : i < 4) : d.chain i =
      if (s.chain i).state = .active then (s.chain i).begin .transfer (s.driveShare none x.lift i) else s.chain i :=
    shiftAll_chain s _ _ hi
  have begun : s.tryTransfer = if d.shifting .transfer then d else { d with pcm.staging := some ⟨x, .transferred runs⟩ } := by
    rw [State.tryTransfer, composed]
    exact if_pos ⟨running, due⟩
  have shifts : d.shifting .transfer = true ↔ ∃ i, i < 4 ∧ (s.chain i).state = .active := by
    rw [shifting_iff]
    constructor
    · rintro ⟨i, hi, y, hy, work, going⟩
      rw [chain i hi] at hy
      refine ⟨i, hi, ?_⟩
      by_contra off
      rw [if_neg off] at hy
      rw [Bool.eq_false_iff, Ne, shifting_iff] at quiet
      exact quiet ⟨i, hi, y, hy, work, going⟩
    · rintro ⟨i, hi, active⟩
      exact ⟨i, hi, { work := .transfer, drive := s.driveShare none x.lift i, done := false },
        by rw [chain i hi, if_pos active]; rfl, rfl, rfl⟩
  have hcu : s.tryTransfer.hcu = d.hcu := by
    rw [begun]
    split <;> rfl
  refine ⟨?_, fun i hi => ⟨fun active => ?_, fun off => ?_⟩, fun active => ?_, fun idle => ?_⟩
  · rw [hcu, ← due]
    rfl
  · rw [State.chain, hcu]
    exact (chain i hi).trans (if_pos active)
  · rw [State.chain, hcu]
    exact (chain i hi).trans (if_neg off)
  · rw [begun, if_pos (shifts.2 active)]
    rfl
  · rw [begun, if_neg fun going => (shifts.1 going).elim fun i h => idle i h.1 h.2]
    rfl

/-! ### FIXED and PARKED sections (R90, R91) -/

/-- A hook of a FIXED section takes the bit of its weave. -/
theorem liftBit_fixed (y : Composition) (cells : CellMem) {sec : Section} (mode : sec.mode = .fixed) (j : Nat) :
    y.liftBit cells sec j =
      let w := tabGet y.weaves sec.weave .powerOn
      w.bit (y.g % w.wh) (j % w.ww) := by
  rw [Composition.liftBit, mode]

/-- A hook of a PARKED section is composed lowered. -/
theorem liftBit_parked (y : Composition) (cells : CellMem) {sec : Section} (mode : sec.mode = .parked) (j : Nat) :
    y.liftBit cells sec j = false := by
  rw [Composition.liftBit, mode]

/-- TRANSFER delivered alone on its step. -/
theorem exec_forwardStep_transfer {early : BitVec 4} (running : s.stu.weaving = .running)
    (fired : s.stu.firedAt (s.stu.position + 1).val = [.transfer]) (still : ∀ c b, s.wsu.finger ≠ .waiting c b)
    (noRelease : s.wsu.release = none) :
    exec (.forwardStep early) s = .next (State.tryTransfer { s with stu := s.stu.forward, hcu.transferDue := true }) := by
  rw [exec_forwardStep_single running fired still, stepped_of_no_release noRelease]
  rfl

/-- Settles O28: the float stage over the lift composed with no limit, hook by hook, and the transfer at the later of the two. -/
theorem compositionEnds : Obligations.CompositionEnds := by
  refine ⟨?_, ?_⟩
  · intro s p r hst
    let all := s.readsTo p (s.designSections + 1) r
    let ended := s.endComposition p r
    have pick (q : State) : ((q.endComposition p r).tryTransfer.pcm.staging.map (·.pick)) =
        some (composedPick p (q.floated p (q.readsTo p (q.designSections + 1) r))) := tryTransfer_pick _
    have reads : (unlimited s).readsTo p ((unlimited s).designSections + 1) r = all := by
      rw [unlimited_readsTo, unlimited_designSections]
    refine ⟨_, composedPick p (s.floated p all), exec_compositionEnd hst, pick s, rfl, ⟨?_, ?_⟩, tryTransfer_eq ended,
      ⟨_, composedPick p ((unlimited s).floated p all), exec_compositionEnd hst, reads ▸ pick (unlimited s), unlimited_counts s p all,
        floatStage_of_apart p all⟩,
      fun h hh => ⟨lift_of_uncovered hh, fun i hi covered alone => ⟨fun parked noLimit => ?_, fun fixed => ?_⟩⟩⟩
    · exact fun notDue => tryTransfer_not_due (s := ended) notDue
    · exact fun running due quiet => tryTransfer_begins (s := ended) rfl running due quiet
    · obtain ⟨barred, free⟩ := lift_of_bit hi hh covered alone (liftBit_parked _ _ parked _)
      by_cases bar : s.flm.lwarp ≠ 0 ∧ runOf s.flm.runs h = s.flm.lwarp
      · exact barred bar
      · exact (free bar).2 rfl noLimit
    · exact lift_of_bit hi hh covered alone (liftBit_fixed _ _ fixed _)
  · intro s early running fired still noRelease moved
    have begins := exec_forwardStep_transfer (early := early) running fired still noRelease
    refine ⟨fun other => ?_, fun x runs composed quiet => ?_⟩
    · exact begins.trans (congrArg _ (tryTransfer_not_composed (s := moved) other))
    · exact ⟨_, begins, tryTransfer_begins (s := moved) composed running rfl quiet, tryTransfer_eq moved⟩

end Sys2Proof.Machine.Program
end

section
/-! What the float limits of a state rest on, and the moves that keep them: the float limiter stays, and the composed lift stays or goes. -/

namespace Sys2Proof.Machine.Program

open Sys2Proof Sys2Proof.Machine

variable {s t u : State}

/-- The composed staging lift with its run counters, from COMPOSED on (R100). -/
def composedFloats (s : State) : Option (Lift × Runs) := s.pcm.staging.bind fun st => st.phase.runs?.map fun r => (st.pick.lift, r)

/-- The invariant rests on the float limiter and the composed lift. -/
theorem floatsLimited_iff : FloatsLimited s ↔
    (s.flm.lwarp = 0 ∨ 2 ≤ s.flm.lwarp ∧ s.flm.lwarp ≤ 32) ∧ RunsWithin s.flm.lwarp s.flm.runs ∧
    ∀ x, composedFloats s = some x → RunsWithin s.flm.lwarp x.2 ∧ LiftBarred s.flm.lwarp s.flm.runs x.1 := by
  refine and_congr_right fun _ => and_congr_right fun _ => ⟨fun h x hx => ?_, fun h st hst r hr => ?_⟩
  · obtain ⟨st, hst, hx⟩ := Option.bind_eq_some_iff.1 hx
    obtain ⟨r, hr, rfl⟩ := Option.map_eq_some_iff.1 hx
    exact h st hst r hr
  · exact h (st.pick.lift, r) (by simp [composedFloats, hst, hr])

/-- With nothing composed, the limit and the shed run counters are all there is to keep. -/
theorem floatsLimited_of_uncomposed (legal : s.flm.lwarp = 0 ∨ 2 ≤ s.flm.lwarp ∧ s.flm.lwarp ≤ 32)
    (within : RunsWithin s.flm.lwarp s.flm.runs) (empty : composedFloats s = none) : FloatsLimited s :=
  floatsLimited_iff.2 ⟨legal, within, fun x hx => by simp [empty] at hx⟩

/-- With a lift composed, it and its run counters are to keep as well. -/
theorem floatsLimited_of_composed {l : Lift} {runs : Runs} (legal : s.flm.lwarp = 0 ∨ 2 ≤ s.flm.lwarp ∧ s.flm.lwarp ≤ 32)
    (within : RunsWithin s.flm.lwarp s.flm.runs) (composed : composedFloats s = some (l, runs)) (staged : RunsWithin s.flm.lwarp runs)
    (barred : LiftBarred s.flm.lwarp s.flm.runs l) : FloatsLimited s := by
  refine floatsLimited_iff.2 ⟨legal, within, fun x hx => ?_⟩
  obtain rfl := Option.some.inj (composed.symm.trans hx)
  exact ⟨staged, barred⟩

/-- A move that leaves the float limiter as it was, and the composed lift too or none. -/
def FloatsKept (s t : State) : Prop := t.flm = s.flm ∧ (composedFloats t = none ∨ composedFloats t = composedFloats s)

theorem FloatsKept.refl (s : State) : FloatsKept s s := ⟨rfl, .inr rfl⟩

theorem FloatsKept.trans (h : FloatsKept s t) (h' : FloatsKept t u) : FloatsKept s u := by
  obtain ⟨flm, lift⟩ := h
  obtain ⟨flm', lift'⟩ := h'
  refine ⟨flm'.trans flm, ?_⟩
  rcases lift' with gone | same
  · exact .inl gone
  · exact same ▸ lift

theorem FloatsKept.limited (h : FloatsKept s t) (limited : FloatsLimited s) : FloatsLimited t := by
  obtain ⟨flm, lift⟩ := h
  rw [floatsLimited_iff] at limited ⊢
  obtain ⟨legal, within, composed⟩ := limited
  rw [flm]
  refine ⟨legal, within, fun x hx => composed x ?_⟩
  rcases lift with gone | same
  · simp [gone] at hx
  · exact same ▸ hx

theorem FloatsKept.uncomposed (h : FloatsKept s t) (empty : composedFloats s = none) : composedFloats t = none := by
  obtain ⟨-, lift⟩ := h
  exact lift.elim id (·.trans empty)

theorem uncomposed_of_empty (h : s.pcm.staging = none) : composedFloats s = none := by
  simp [composedFloats, h]

theorem floatsKept_of_staging (flm : t.flm = s.flm) (staging : t.pcm.staging = s.pcm.staging) : FloatsKept s t :=
  ⟨flm, .inr (congrArg (Option.bind · _) staging)⟩

/-- Neither the composer nor the float limiter has a part in the move. -/
theorem floatsKept_of_blocks (flm : t.flm = s.flm) (pcm : t.pcm = s.pcm) : FloatsKept s t :=
  floatsKept_of_staging flm (congrArg Pcm.staging pcm)

theorem floatsLimited_of_blocks (limited : FloatsLimited s) (flm : t.flm = s.flm) (pcm : t.pcm = s.pcm) : FloatsLimited t :=
  (floatsKept_of_blocks flm pcm).limited limited

theorem floatsKept_of_queueMoved (h : QueueMoved s t) : FloatsKept s t := by
  obtain ⟨_, _, _, _, _, _, _, _, _, rfl⟩ := h
  exact floatsKept_of_blocks rfl rfl

theorem floatsKept_foldl {α : Type} {f : State → α → State} (h : ∀ s x, FloatsKept s (f s x)) (s : State) (l : List α) :
    FloatsKept s (l.foldl f s) :=
  List.foldlRecOn _ _ (.refl s) fun _ kept x _ => kept.trans (h _ x)

variable (s : State)

/-! ### Messages and sources -/

theorem floatsKept_send (m : LoomMessage) : FloatsKept s (s.send m) := floatsKept_of_blocks (by simp) (by simp)

theorem floatsKept_refuseMessage (kind : Byte) (why : Reason) : FloatsKept s (s.refuseMessage kind why) := floatsKept_send s _

theorem floatsKept_sendState (clamped : Bool) : FloatsKept s (s.sendState clamped) := floatsKept_send s _

/-! ### The weft finger: a channel written into the staging record leaves its lift (R163) -/

theorem floatsKept_resolve (w : Nat) : FloatsKept s (s.resolve w).2 := floatsKept_of_blocks (by simp) (by simp)

theorem floatsKept_releaseFinger : FloatsKept s s.releaseFinger := floatsKept_of_blocks (by simp) (by simp)

theorem floatsKept_stopFinger : FloatsKept s s.stopFinger := floatsKept_of_blocks rfl rfl

/-- The record of a pick due in staging is the staging record, as it is after the weft of the pick is resolved. -/
theorem floatsKept_writeChannel_resolve {due : Due} (w c : Nat)
    (own : ∀ p, due = .staging p → ∃ st, s.pcm.staging = some st ∧ st.pick = p) :
    FloatsKept s ((s.resolve w).2.writeChannel due c) := by
  refine (floatsKept_resolve s w).trans ?_
  cases due with
  | staging p =>
    obtain ⟨st, hst, rfl⟩ := own p rfl
    exact ⟨rfl, .inr (by simp [State.writeChannel, composedFloats, hst])⟩
  | shed p | answer v | nothing => exact floatsKept_of_blocks rfl rfl

theorem floatsKept_engage : FloatsKept s s.engage := by
  obtain ⟨-, own⟩ := pickDue_record s
  unfold State.engage
  dsimp only
  split
  · exact floatsKept_of_blocks rfl rfl
  · next w _ => exact (floatsKept_writeChannel_resolve s w _ own).trans (floatsKept_of_blocks rfl rfl)

theorem floatsKept_engageDue : FloatsKept s s.engageDue := by
  unfold State.engageDue
  split
  · exact floatsKept_engage s
  · exact .refl s

theorem floatsKept_waitFor (c : Nat) : FloatsKept s (s.waitFor c) := by
  have waits : FloatsKept s { s with wsu.finger := .waiting c s.wsu.finger.carried } := floatsKept_of_blocks rfl rfl
  unfold State.waitFor
  dsimp only
  split
  · exact waits.trans (floatsKept_engage _)
  · exact waits

theorem floatsKept_weftSelect : FloatsKept s s.weftSelect := by
  obtain ⟨-, own⟩ := pickDue_record s
  unfold State.weftSelect
  dsimp only
  split
  · split
    · exact floatsKept_of_blocks rfl rfl
    · exact .refl s
    · exact .refl s
  · next w _ =>
    have resolved := floatsKept_resolve s w
    split
    · split
      · exact (floatsKept_writeChannel_resolve s w _ own).trans (floatsKept_of_blocks rfl rfl)
      · exact resolved.trans ((floatsKept_releaseFinger _).trans (floatsKept_waitFor _ _))
    · exact resolved.trans (floatsKept_waitFor _ _)
    · exact resolved.trans (floatsKept_waitFor _ _)

theorem floatsKept_markCarried : FloatsKept s s.markCarried := floatsKept_of_blocks (by simp) (by simp)

theorem floatsKept_carryEngagement : FloatsKept s s.carryEngagement := by
  have told : FloatsKept s (State.requestStop { s.raise .weftLate with evs.weft.weftLate := bump s.evs.weft.weftLate } .weftLate) :=
    floatsKept_of_blocks (by simp) (by simp)
  unfold State.carryEngagement
  dsimp only
  split
  · split
    · exact told.trans ((floatsKept_weftSelect _).trans (floatsKept_markCarried _))
    · exact told.trans (floatsKept_markCarried _)
    · exact told
  · exact .refl s

theorem floatsKept_checkChannel : FloatsKept s s.checkChannel := by
  unfold State.checkChannel
  split
  · next st _ hst _ =>
    split
    · have own (p : Pick) (hp : Due.staging st.pick = .staging p) : ∃ st', s.pcm.staging = some st' ∧ st'.pick = p :=
        ⟨st, hst, Due.staging.inj hp⟩
      dsimp only
      split
      · exact floatsKept_writeChannel_resolve s _ _ own
      · have counted : FloatsKept s (s.resolve st.pick.weft).2.countSelect := (floatsKept_resolve s _).trans (floatsKept_of_blocks rfl rfl)
        exact counted.trans ((floatsKept_releaseFinger _).trans (floatsKept_waitFor _ _))
    · exact .refl s
  · exact .refl s

/-! ### The staging record (R79, R81, R93, R132) -/

theorem floatsKept_finishTransfer : FloatsKept s s.finishTransfer := by
  unfold State.finishTransfer
  split
  · next p runs hst =>
    split
    · exact .refl s
    · exact ⟨rfl, .inr (by simp [composedFloats, hst, Phase.runs?])⟩
  · exact .refl s

theorem floatsKept_tryTransfer : FloatsKept s s.tryTransfer := by
  unfold State.tryTransfer
  split
  · next p runs hst =>
    split
    · have begun : FloatsKept s { s.shiftAll .transfer p.lift with pcm.staging := some ⟨p, .transferring runs⟩ } :=
        ⟨rfl, .inr (by simp [composedFloats, hst, Phase.runs?])⟩
      exact begun.trans (floatsKept_finishTransfer _)
    · exact .refl s
  · exact .refl s

theorem floatsKept_settleReads (id : Nat) : FloatsKept s (s.settleReads id) := by
  unfold State.settleReads
  split
  · next p r hst =>
    split
    · exact ⟨by simp, .inl (by simp [State.readAhead, hst, composedFloats, Phase.runs?])⟩
    · exact .refl s
  · exact .refl s

theorem floatsKept_beginComposition : FloatsKept s s.beginComposition := by
  rcases beginComposition_cases s with ⟨seq, starved, p, begins⟩ | ⟨seq, starved, begins⟩ | last
  · have record : FloatsKept (entered s seq starved) (recorded (entered s seq starved) p) := ⟨rfl, .inl rfl⟩
    rw [begins]
    exact (floatsKept_of_queueMoved (queueMoved_entered s starved)).trans (record.trans (floatsKept_checkChannel _))
  · rw [begins]
    exact floatsKept_of_queueMoved (queueMoved_entered s starved)
  · rw [beginComposition_of_none last]
    exact floatsKept_of_staging rfl rfl

theorem uncomposed_discardStaging : composedFloats s.discardStaging = none :=
  uncomposed_of_empty (s.discardStaging_eq_discarded ▸ discarded_staging s)

theorem floatsKept_discardStaging : FloatsKept s s.discardStaging := ⟨by simp, .inl (uncomposed_discardStaging s)⟩

/-- After an event of the staging invalidation list nothing is composed: the list lets a composition in flight go on, and begins another
for a later record at the most (R93, R96). -/
theorem uncomposed_invalidate : composedFloats s.invalidate = none := by
  unfold State.invalidate
  split
  · next hst => exact uncomposed_of_empty hst
  · next hst => simp [composedFloats, hst, Phase.runs?]
  · split
    · exact (floatsKept_beginComposition _).uncomposed (uncomposed_discardStaging s)
    · exact uncomposed_discardStaging s

theorem floatsKept_invalidate : FloatsKept s s.invalidate := ⟨by simp, .inl (uncomposed_invalidate s)⟩

theorem floatsKept_invalidateFor (before : State) (id : Nat) : FloatsKept s (s.invalidateFor before id) := by
  unfold State.invalidateFor
  split
  · exact floatsKept_invalidate s
  · exact .refl s

theorem floatsKept_abandonWork : FloatsKept s s.abandonWork := by
  unfold State.abandonWork
  split
  · exact floatsKept_discardStaging s
  · exact floatsKept_discardStaging s
  · exact .refl s

/-! ### Stops, RUN, FIND and the package messages (R11 to R17, R159) -/

theorem floatsKept_enterStopped : FloatsKept s s.enterStopped := floatsKept_of_blocks (by simp) (by simp)

theorem floatsKept_immediateStop : FloatsKept s s.immediateStop := by
  have stopped : FloatsKept s { s with stu.weaving := .stopped } := floatsKept_of_blocks rfl rfl
  exact (stopped.trans (floatsKept_discardStaging _)).trans ((floatsKept_stopFinger _).trans (floatsKept_enterStopped _))

theorem floatsKept_hardStop (cause : Cause) (notify : Bool) : FloatsKept s (s.hardStop cause notify) := by
  have stopped : FloatsKept s (match s.stu.weaving with
      | .running => s.immediateStop | .stopped => s.discardStaging | .finding => s.enterStopped) := by
    split
    · exact floatsKept_immediateStop s
    · exact floatsKept_discardStaging s
    · exact floatsKept_enterStopped s
  have told (u : State) : FloatsKept u
      ((if notify then u.send (.stopRequest cause) else u).recordStop { cause, channel := none, mode := .immediate }) := by
    split
    · exact floatsKept_of_blocks (by simp) (by simp)
    · exact floatsKept_of_blocks rfl rfl
  exact stopped.trans (told _)

theorem floatsKept_takeRun : FloatsKept s s.takeRun := by
  unfold State.takeRun
  split
  · exact floatsKept_refuseMessage s _ _
  · exact floatsKept_of_staging (by simp [State.startRunning]) (by simp [State.startRunning])

theorem floatsKept_takeStop (cause channel : Byte) : FloatsKept s (s.takeStop cause channel) := by
  have applied (mode : StopMode) : FloatsKept s (s.applyStop mode) := by
    unfold State.applyStop
    split
    · exact floatsKept_immediateStop s
    · exact floatsKept_of_blocks (by simp) (by simp)
    · exact floatsKept_enterStopped s
    · exact .refl s
  have recorded (u : State) (r : LastStop) : FloatsKept u (u.recordStop r) := floatsKept_of_blocks rfl rfl
  exact (applied _).trans ((recorded _ _).trans (floatsKept_sendState _ _))

theorem floatsKept_takeFind : FloatsKept s s.takeFind := by
  unfold State.takeFind
  split
  · exact (floatsKept_discardStaging s).trans (floatsKept_of_blocks (by simp) (by simp))
  · exact floatsKept_refuseMessage s _ _

theorem floatsKept_takeReleaseWait : FloatsKept s s.takeReleaseWait :=
  floatsKept_of_blocks (by simp [State.takeReleaseWait]) (by simp [State.takeReleaseWait])

theorem floatsKept_takePackageOut (channel : Byte) : FloatsKept s (s.takePackageOut channel) := by
  have entries (u : State) (w : Nat) : FloatsKept u (State.entryOut channel.toNat u w) := floatsKept_of_blocks (by simp) (by simp)
  unfold State.takePackageOut
  split
  · exact floatsKept_refuseMessage s _ _
  · refine .trans ?_ (floatsKept_sendState _ _)
    unfold State.channelOut
    dsimp only
    have out := FloatsKept.trans (floatsKept_of_blocks rfl rfl) (floatsKept_foldl entries
      { s with wsu.ready := tabSet s.wsu.ready channel.toNat false
               evs.weft.packageOut := countAt s.evs.weft.packageOut channel.toNat 1 } (List.range 8))
    split
    · exact out.trans (floatsKept_of_blocks (by simp) (by simp))
    · exact out

theorem floatsKept_takePackageReady (channel : Byte) : FloatsKept s (s.takePackageReady channel) := by
  unfold State.takePackageReady
  split
  · exact floatsKept_refuseMessage s _ _
  · exact floatsKept_of_blocks (by simp) (by simp)

end Sys2Proof.Machine.Program
end

section
/-! The operations that change run counters or compose a lift keep the float limits: the end of a composition, the latch, the level shed, the
rebuilding (R100 to R105, R107). -/

namespace Sys2Proof.Machine.Program

open Sys2Proof Sys2Proof.Machine

variable {s t : State}

/-! ### Run counters within the limit (R100, R103, R107) -/

/-- A hook's run counter is 0 or stands in the list. -/
theorem runOf_zero_or_mem (runs : Runs) (h : Nat) : runOf runs h = 0 ∨ (h, runOf runs h) ∈ runs := by
  induction runs with
  | nil => exact .inl rfl
  | cons r rest ih =>
    obtain ⟨k, n⟩ := r
    rw [runOf]
    split
    · next same => exact .inr (same ▸ List.mem_cons_self)
    · exact ih.imp_right (List.mem_cons_of_mem _)

/-- Under a warp limit no hook's run counter passes it. -/
theorem runOf_le_lwarp {lwarp : Nat} {runs : Runs} (within : RunsWithin lwarp runs) (limited : lwarp ≠ 0) (h : Nat) :
    runOf runs h ≤ lwarp := by
  obtain ⟨-, range⟩ := within
  rcases runOf_zero_or_mem runs h with zero | listed
  · omega
  · obtain ⟨-, -, -, below⟩ := range _ listed
    exact below limited

/-- Run counters listed for the hooks a lift raises are within their range when each is. -/
theorem runsWithin_of_raised {lwarp : Nat} {l : Lift} {f : Nat → Nat}
    (range : ∀ h, h < 12288 → l.getLsbD h = true → 1 ≤ f h ∧ f h ≤ 32 ∧ (lwarp ≠ 0 → f h ≤ lwarp)) :
    RunsWithin lwarp ((raisedHooks l).map fun h => (h, f h)) := by
  refine ⟨List.pairwise_map.2 (List.Pairwise.filter _ List.pairwise_lt_range), fun r hr => ?_⟩
  obtain ⟨h, hh, rfl⟩ := List.mem_map.1 hr
  obtain ⟨below, raised⟩ := List.mem_filter.1 hh
  have below : h < 12288 := List.mem_range.1 below
  exact ⟨below, range h below raised⟩

/-- The staging run counters of a lift that raises no barred hook stay within the warp limit (R101, R103). -/
theorem runsWithin_promoted {lwarp : Nat} {runs : Runs} {l : Lift} (within : RunsWithin lwarp runs) (barred : LiftBarred lwarp runs l) :
    RunsWithin lwarp (promoted l runs) := by
  refine runsWithin_of_raised fun h _ raised => ⟨by omega, by omega, fun limited => ?_⟩
  have below := runOf_le_lwarp within limited h
  have unbarred := barred limited h raised
  omega

/-- Counting back from a record that raises the hook gives 1 up to the cap (R107). -/
theorem countBack_range {cap h : Nat} (positive : 1 ≤ cap) (origin : Bool) {p : Pick} (older : List Pick)
    (raised : p.lift.getLsbD h = true) : 1 ≤ countBack cap origin h (p :: older) ∧ countBack cap origin h (p :: older) ≤ cap := by
  rw [countBack, if_pos raised]
  omega

/-- The rebuilt run counters are within the warp limit (R107). -/
theorem runsWithin_rebuiltRuns (ph : Ph) {lwarp : Nat} (legal : lwarp = 0 ∨ 2 ≤ lwarp ∧ lwarp ≤ 32) :
    RunsWithin lwarp (rebuiltRuns ph lwarp) := by
  unfold rebuiltRuns
  split
  · exact ⟨.nil, nofun⟩
  · next p _ =>
    have cap : 1 ≤ runCap lwarp ∧ runCap lwarp ≤ 32 ∧ (lwarp ≠ 0 → runCap lwarp ≤ lwarp) := by
      unfold runCap
      split <;> omega
    refine runsWithin_of_raised fun h _ raised => ?_
    obtain ⟨low, high⟩ := countBack_range cap.1 ph.origin ph.ring.reverse raised
    omega

/-! ### The end of a composition (R82, R101) -/

/-- A composed lift raises no hook that the warp limit bars, whether or not sections share it (R101, R102). -/
theorem liftBarred_composed (s : State) (p : Pick) (r : Reads) :
    LiftBarred s.flm.lwarp s.flm.runs (composedPick p (s.floated p r)).lift := by
  intro limited h raised atLimit
  rw [composedPick, getLsbD_liftOf _ (BitVec.lt_of_getLsbD raised), List.any_eq_true] at raised
  obtain ⟨_, hy, raised⟩ := raised
  obtain ⟨i, -, -, rfl⟩ := (mem_floated s p r _).1 hy
  rw [Bool.and_eq_true, decide_eq_true_eq] at raised
  obtain ⟨from', raised⟩ := raised
  have bar : barred s.flm.lwarp s.flm.runs ((s.section i).f + (h - (s.section i).f)) = true := by
    rw [Nat.add_sub_cancel' from']
    exact decide_eq_true ⟨limited, atLimit⟩
  obtain ⟨-, stage⟩ := floatSection_bits (barred s.flm.lwarp s.flm.runs) (s.section i)
    ((s.composition p r).sectionBits (sectionRow s r.rows i) (s.section i))
  exact absurd (((stage _).1 bar).symm.trans raised) Bool.false_ne_true

theorem floatsLimited_endComposition (limited : FloatsLimited s) (p : Pick) (r : Reads) : FloatsLimited (s.endComposition p r) := by
  obtain ⟨legal, within, -⟩ := id limited
  let l := (composedPick p (s.floated p (s.readsTo p (s.designSections + 1) r))).lift
  have barred : LiftBarred s.flm.lwarp s.flm.runs l := liftBarred_composed s p _
  exact floatsLimited_of_composed (l := l) legal within rfl (runsWithin_promoted within barred) barred

/-! ### The rebuilding (R107, R109, R120) -/

/-- After a rebuilding under a legal limit and an event of the invalidation list the float limits hold. -/
theorem floatsLimited_invalidate_rebuilt (ph : Ph) (legal : s.flm.lwarp = 0 ∨ 2 ≤ s.flm.lwarp ∧ s.flm.lwarp ≤ 32)
    (rebuilt : s.flm.runs = rebuiltRuns ph s.flm.lwarp) : FloatsLimited s.invalidate := by
  have flm : s.invalidate.flm = s.flm := by simp
  refine floatsLimited_of_uncomposed (flm ▸ legal) ?_ (uncomposed_invalidate s)
  rw [flm, rebuilt]
  exact runsWithin_rebuiltRuns ph legal

theorem floatsLimited_stepBack (limited : FloatsLimited s) (p : Pick) : FloatsLimited (s.stepBack p) := by
  obtain ⟨legal, -, -⟩ := limited
  unfold State.stepBack
  dsimp only
  refine floatsLimited_invalidate_rebuilt _ ?_ rfl
  split <;> simpa [State.rebuildRuns, State.reopenStep] using legal

theorem floatsLimited_takeFloatLimits (limited : FloatsLimited s) (limit : Byte) : FloatsLimited (takeFloatLimits limit s).state := by
  unfold takeFloatLimits
  split
  · exact limited
  · refine floatsLimited_invalidate_rebuilt _ ?_ rfl
    show clampedLwarp limit.toNat = 0 ∨ 2 ≤ clampedLwarp limit.toNat ∧ clampedLwarp limit.toNat ≤ 32
    unfold clampedLwarp
    split <;> omega

/-! ### The latch (R104, R105, R115) -/

/-- Weaving the old shed leaves the staging record. -/
theorem weaveShed_staging (s : State) (old : Option Pick) : (s.weaveShed old).pcm.staging = s.pcm.staging := by
  cases old <;> simp [State.weaveShed, State.makeWoven]

theorem floatsLimited_pickLatch (limited : FloatsLimited s) {p : Pick} {runs : Runs}
    (transferred : s.pcm.staging = some ⟨p, .transferred runs⟩) : FloatsLimited (s.pickLatch p runs) := by
  obtain ⟨legal, -, staged⟩ := limited
  obtain ⟨within, -⟩ := staged _ transferred runs rfl
  obtain ⟨strobes, -⟩ := strobed_blocks s p runs
  have flm : (shedTaken s p runs).flm = { s.flm with runs := runs } := by simp [shedTaken, strobes]
  have taken : FloatsLimited (shedTaken s p runs) :=
    floatsLimited_of_uncomposed (flm ▸ legal) (flm ▸ within) (uncomposed_of_empty rfl)
  rw [pickLatch_eq]
  exact (floatsKept_of_queueMoved ((queueMoved_closeOld _ _).trans (queueMoved_occur _ _))).limited taken

theorem floatsLimited_levelShed (limited : FloatsLimited s) (empty : s.pcm.staging = none) : FloatsLimited s.levelShed := by
  obtain ⟨legal, -, -⟩ := limited
  let cleared := State.levelFloats { s with hcu.chains := tabMap (fun _ (c : Chain) => c.pulseClear) s.hcu.chains }
  have level : FloatsLimited cleared := floatsLimited_of_uncomposed legal ⟨.nil, nofun⟩ (uncomposed_of_empty empty)
  let woven : State := { cleared.weaveShed s.ph.shed with ph.shed := none }
  have wove : FloatsKept cleared woven := floatsKept_of_staging (by simp [woven]) (weaveShed_staging _ _)
  have closed := wove.trans (floatsKept_of_queueMoved ((queueMoved_closeOld woven s.ph.shed).trans (queueMoved_raise _ .programEnd)))
  exact (closed.trans (floatsKept_hardStop _ .programEnd true)).limited level

theorem floatsKept_isolate (s : State) (c : Nat) : FloatsKept s (s.isolate c) := floatsKept_of_blocks rfl rfl

theorem floatsKept_patternLate (s : State) (early : BitVec 4) : FloatsKept s (s.patternLate early) := by
  have isolated (u : State) (cut : List Nat) : FloatsKept u (cut.foldl State.isolate u.discardStaging) :=
    (floatsKept_discardStaging u).trans (floatsKept_foldl floatsKept_isolate _ cut)
  have late : FloatsKept s { s.raise .patternLate with evs.chains.patternLate := bump s.evs.chains.patternLate } :=
    floatsKept_of_blocks rfl rfl
  unfold State.patternLate
  dsimp only
  split
  · exact late.trans ((isolated _ _).trans (floatsKept_hardStop _ _ _))
  · have faulted (u : State) : FloatsKept u ((u.raise .chainFault).freely [Cause.patternLate, Cause.chainFault]).2 :=
      floatsKept_of_blocks rfl rfl
    exact late.trans ((isolated _ _).trans ((faulted _).trans (floatsKept_foldl (fun u c => floatsKept_hardStop u c true) _ _)))

theorem floatsLimited_latch (limited : FloatsLimited s) (early : BitVec 4) : FloatsLimited (s.latch early) := by
  unfold State.latch
  split
  · next empty =>
    split
    · exact floatsLimited_levelShed limited empty
    · exact limited
  · next transferred => exact floatsLimited_pickLatch limited transferred
  · exact (floatsKept_patternLate s early).limited limited

/-! ### Angle events (R5) -/

theorem floatsLimited_deliver (limited : FloatsLimited s) (early : BitVec 4) (e : AngleEvent) : FloatsLimited (s.deliver early e) := by
  cases e with
  | compose =>
    show FloatsLimited s.compose
    unfold State.compose
    split
    · split
      · exact limited
      · exact (floatsKept_beginComposition s).limited limited
    · exact limited
  | transfer =>
    have due : FloatsKept s { s with hcu.transferDue := true } := floatsKept_of_blocks rfl rfl
    exact (due.trans (floatsKept_tryTransfer _)).limited limited
  | latch => exact floatsLimited_latch limited early
  | weftRelease => exact floatsLimited_of_blocks limited (t := s.weftRelease) (by simp) (by simp)
  | weftSelect => exact (floatsKept_weftSelect s).limited limited

theorem floatsLimited_takePart (limited : FloatsLimited s) (early : BitVec 4) (part : StepPart) :
    FloatsLimited (s.takePart early part) := by
  cases part with
  | angle e =>
    cases weaving : s.stu.weaving <;> simp only [State.takePart, weaving]
    · exact limited
    · exact floatsLimited_deliver limited early e
    · exact limited
  | engagement => exact (floatsKept_engageDue s).limited limited

theorem floatsLimited_forwardStep (limited : FloatsLimited s) (early : BitVec 4) : FloatsLimited (s.forwardStep early) := by
  have moved : FloatsKept s (stepped s) := floatsKept_of_blocks (by simp [stepped]) (by simp [stepped])
  have drawn (u : State) (parts : List StepPart) : FloatsKept u (u.freely parts).2 := by
    unfold State.freely
    split <;> exact floatsKept_of_blocks rfl rfl
  exact List.foldlRecOn _ _ ((moved.trans (drawn _ _)).limited limited) fun _ limited part _ => floatsLimited_takePart limited early part

theorem floatsKept_forwardIndexCrossing (s : State) :
    FloatsKept s (State.countRelease { s.indexForward with hcu.transferDue := false }).engageDue.carryEngagement := by
  have crossed : FloatsKept s (State.countRelease { s.indexForward with hcu.transferDue := false }) :=
    floatsKept_of_blocks (by simp) (by simp)
  exact crossed.trans ((floatsKept_engageDue _).trans (floatsKept_carryEngagement _))

end Sys2Proof.Machine.Program
end

section
/-! The chains' part in the float limits: re-presentations, probes and completions leave them, and a chain fault's stop may drop the composed
lift; a pick back works the run counters out afresh (R107, R120 to R135). -/

namespace Sys2Proof.Machine.Program

open Sys2Proof Sys2Proof.Machine

variable (s : State)

theorem floatsKept_finishRepresentation : FloatsKept s s.finishRepresentation := by
  have answered (u : State) (r : Representation) : FloatsKept u (u.answerRepresentation r) := by
    unfold State.answerRepresentation
    split
    · exact floatsKept_send u _
    · exact (floatsKept_send u _).trans ((floatsKept_hardStop _ .chainFault false).trans (floatsKept_of_blocks rfl rfl))
  have strobed : FloatsKept s { s with hcu.chains := tabMap (fun _ (c : Chain) => c.strobeRepresentation) s.hcu.chains } :=
    floatsKept_of_blocks rfl rfl
  unfold State.finishRepresentation
  split
  · exact .refl s
  · split
    · exact .refl s
    · exact strobed.trans ((answered _ _).trans (floatsKept_of_blocks rfl rfl))

variable {s} in
theorem floatsLimited_takePickBack (limited : FloatsLimited s) : FloatsLimited s.takePickBack := by
  unfold State.takePickBack
  split
  · next p _ _ =>
    have begun (u : State) : FloatsKept u
        { u.shiftAll .representation p.lift with ph.representing := some { g := p.g, faulty := 0#4 } } := floatsKept_of_blocks rfl rfl
    exact ((begun _).trans (floatsKept_finishRepresentation _)).limited (floatsLimited_stepBack limited p)
  · exact (floatsKept_refuseMessage s _ _).limited limited
  · exact limited

/-- A chain's record is not the composer's. -/
theorem floatsKept_updateChain (n : Nat) (f : Chain → Chain) : FloatsKept s (s.updateChain n f) := floatsKept_of_blocks rfl rfl

theorem floatsKept_answerProbe (pr : Probe) : FloatsKept s (s.answerProbe pr) := floatsKept_of_blocks rfl rfl

theorem floatsKept_beginPresentation (c : Fin 4) (p : Pick) : FloatsKept s (s.beginPresentation c p) :=
  floatsKept_of_blocks (by simp) (by simp)

theorem floatsKept_endCount (pr : Probe) (marker : Option Nat) : FloatsKept s (s.endCount pr marker) := by
  have counted := floatsKept_updateChain s pr.chain.val fun x => { x with probe := probeResult marker, shift := none }
  unfold State.endCount
  refine counted.trans ?_
  dsimp only
  split
  · split
    · exact (floatsKept_updateChain _ _ _).trans (floatsKept_answerProbe _ pr)
    · exact floatsKept_beginPresentation _ _ _
  · exact (floatsKept_updateChain _ _ _).trans (floatsKept_answerProbe _ pr)

theorem floatsKept_finishPresentation (pr : Probe) (drive : Share) : FloatsKept s (s.finishPresentation pr drive) := by
  unfold State.finishPresentation
  split
  · split
    · exact (floatsKept_updateChain _ _ _).trans (floatsKept_answerProbe _ pr)
    · exact floatsKept_beginPresentation _ _ _
  · exact (floatsKept_updateChain _ _ _).trans (floatsKept_answerProbe _ pr)

theorem floatsKept_compareEcho (c : Nat) (sensed : Share) : FloatsKept s (s.compareEcho c sensed) := by
  have reported (u : State) (r : Nat × Sense) : FloatsKept u (u.reportMismatch r) := floatsKept_of_blocks (by simp) (by simp)
  exact FloatsKept.trans (floatsKept_of_blocks rfl rfl) (floatsKept_foldl reported _ _)

theorem floatsKept_shiftPassed (c : Fin 4) (x : Shift) (sensed : Share) : FloatsKept s (s.shiftPassed c x sensed) := by
  have completed := floatsKept_updateChain s c.val Chain.complete
  have compared := completed.trans (floatsKept_compareEcho _ c.val sensed)
  have counted (u : State) (probing : Option Probe) : FloatsKept u { u with hcu.probing := probing } := floatsKept_of_blocks rfl rfl
  unfold State.shiftPassed
  dsimp only
  refine compared.trans ?_
  split
  · exact floatsKept_finishTransfer _
  · exact floatsKept_finishRepresentation _
  · split
    · exact (counted _ _).trans (floatsKept_finishPresentation _ _ _)
    · exact .refl _
  · exact .refl _

theorem floatsKept_shiftFailed (c : Fin 4) (x : Shift) : FloatsKept s (s.shiftFailed c x) := by
  have marked (u : State) (r : Option Representation) : FloatsKept u { u with ph.representing := r } := floatsKept_of_blocks rfl rfl
  have raised (u : State) : FloatsKept u (u.raise .chainFault) := floatsKept_of_blocks rfl rfl
  unfold State.shiftFailed
  dsimp only
  refine (floatsKept_isolate s c.val).trans ?_
  split
  · exact (raised _).trans (floatsKept_hardStop _ _ _)
  · exact (marked _ _).trans (floatsKept_finishRepresentation _)
  · split
    · exact (raised _).trans (floatsKept_answerProbe _ _)
    · exact .refl _
  · exact .refl _

end Sys2Proof.Machine.Program
end

section
/-! The design link commands: SOFT_RESET and FLOAT_LIMITS reach the run counters; the others leave the float limits, the edits by the staging
invalidation list (R93, R109, R178). -/

namespace Sys2Proof.Machine.Program

open Sys2Proof Sys2Proof.Machine

variable {s : State}

/-- A test of a command: one that fails is a refusal, which changes nothing. -/
theorem floatsKept_test {test : Prop} [Decidable test] {why : Detail} {taken : Taken} (h : ¬ test → FloatsKept s taken.state) :
    FloatsKept s (if test then Taken.refuse why s else taken).state := by
  split
  · exact .refl s
  · next passed => exact h passed

/-- An edit of other blocks that meets the staging invalidation list (R93). -/
theorem floatsKept_edited {u : State} (edit : FloatsKept s u) : FloatsKept s u.invalidate := edit.trans (floatsKept_invalidate u)

theorem floatsKept_takeStepCut (seq : BitVec 16) : FloatsKept s (takeStepCut seq s).state := by
  unfold takeStepCut
  split
  · exact .refl s
  · exact floatsKept_test fun _ => floatsKept_edited (floatsKept_of_blocks rfl rfl)

theorem floatsKept_takeCells (fromStart : Bool) (count : BitVec 16) (packed : List Byte) :
    FloatsKept s (takeCells fromStart count packed s).state := by
  refine floatsKept_test fun _ => ?_
  split
  · exact .refl s
  · next w _ =>
    refine floatsKept_test fun _ => floatsKept_test fun _ => ?_
    split
    · exact .refl s
    · have settled := floatsKept_settleReads s w.design
      exact (settled.trans (floatsKept_of_blocks rfl rfl)).trans (floatsKept_invalidateFor _ s w.design)

theorem floatsKept_takeColormapWrite (design colour : Byte) (slots : Vector RawSlot 4) :
    FloatsKept s (takeColormapWrite design colour slots s).state := by
  unfold takeColormapWrite
  split
  · exact .refl s
  · refine floatsKept_test fun _ => floatsKept_test fun _ => floatsKept_test fun _ => ?_
    have settled := floatsKept_settleReads s design.toNat
    exact (settled.trans (floatsKept_of_blocks rfl rfl)).trans (floatsKept_invalidateFor _ s design.toNat)

theorem floatsKept_takeSectionWrite (index mode hmode weave lw : Byte) (f c o : BitVec 16) :
    FloatsKept s (takeSectionWrite index f c mode hmode o weave lw s).state := by
  refine floatsKept_test fun _ => ?_
  split
  · exact .refl s
  · exact floatsKept_test fun _ => floatsKept_edited ((floatsKept_abandonWork s).trans (floatsKept_of_staging rfl rfl))

theorem floatsKept_takeChainConfig (chain modules divisor : Byte) : FloatsKept s (takeChainConfig chain modules divisor s).state :=
  floatsKept_test fun _ => floatsKept_test fun _ => floatsKept_test fun _ => floatsKept_test fun _ =>
    floatsKept_edited ((floatsKept_abandonWork s).trans (floatsKept_of_blocks rfl rfl))

theorem floatsKept_takeChainProbe (chain : Byte) : FloatsKept s (takeChainProbe chain s).state := by
  refine floatsKept_test fun _ => floatsKept_test fun _ => floatsKept_test fun _ => ?_
  split
  · exact (floatsKept_edited (floatsKept_abandonWork s)).trans (floatsKept_of_blocks rfl rfl)
  · exact .refl s

theorem floatsKept_takeFaultPut (hook : BitVec 16) (action : Byte) (spare : BitVec 16) :
    FloatsKept s (takeFaultPut hook action spare s).state := by
  unfold takeFaultPut
  split
  · exact .refl s
  · exact floatsKept_test fun _ => floatsKept_test fun _ => floatsKept_test fun _ => floatsKept_edited (floatsKept_of_blocks rfl rfl)

theorem floatsKept_takeFaultRemove (hook : BitVec 16) : FloatsKept s (takeFaultRemove hook s).state := by
  refine floatsKept_test fun _ => ?_
  split
  · exact .refl s
  · exact floatsKept_edited (floatsKept_of_blocks rfl rfl)

/-- A walk of the fault table moves its position alone (R152). -/
theorem floatsKept_walkTo (e : Option FaultEntry) : FloatsKept s (walkTo e s).state := by
  cases e <;> exact floatsKept_of_blocks rfl rfl

/-- A soft reset keeps the warp limit and clears every run counter and the staging record (R178). -/
theorem floatsLimited_takeSoftReset (limited : FloatsLimited s) : FloatsLimited (takeSoftReset s).state := by
  unfold takeSoftReset
  split
  · exact limited
  · obtain ⟨legal, -, -⟩ := limited
    have reset : FloatsLimited s.softReset := floatsLimited_of_uncomposed legal ⟨.nil, nofun⟩ rfl
    exact (floatsKept_sendState _ false).limited reset

/-- A design link command, whatever it answers. -/
theorem floatsLimited_owner {c : Instr} {owner : State → Taken} (limited : FloatsLimited s) (ho : ownerOf c = some owner) :
    FloatsLimited (owner s).state := by
  have keeps {t : State} (h : FloatsKept s t) : FloatsLimited t := h.limited limited
  have stands : FloatsKept s s := .refl s
  cases c with
  | softReset => cases ho; exact floatsLimited_takeSoftReset limited
  | floatLimits => cases ho; exact floatsLimited_takeFloatLimits limited _
  | stepCut => cases ho; exact keeps (floatsKept_takeStepCut _)
  | cells | cellsMore => cases ho; exact keeps (floatsKept_takeCells _ _ _)
  | weaveWrite =>
    cases ho
    exact keeps (floatsKept_test fun _ => floatsKept_test fun _ => floatsKept_edited (floatsKept_of_blocks rfl rfl))
  | colormapWrite => cases ho; exact keeps (floatsKept_takeColormapWrite _ _ _)
  | sectionWrite => cases ho; exact keeps (floatsKept_takeSectionWrite _ _ _ _ _ _ _ _)
  | chainConfig => cases ho; exact keeps (floatsKept_takeChainConfig _ _ _)
  | chainProbe => cases ho; exact keeps (floatsKept_takeChainProbe _)
  | faultPut => cases ho; exact keeps (floatsKept_takeFaultPut _ _ _)
  | faultRemove => cases ho; exact keeps (floatsKept_takeFaultRemove _)
  | faultFirst => cases ho; exact keeps (floatsKept_walkTo _)
  | faultNext =>
    cases ho
    refine keeps ?_
    unfold takeFaultNext
    split
    · exact stands
    · exact floatsKept_walkTo _
  | runCountersRead | sectionRead | chainRead | weaveRead | weftRead => cases ho; exact keeps (floatsKept_test fun _ => stands)
  | statusRead | eventsRead | anglesRead | storeFree => cases ho; exact keeps stands
  | queueWatermark | agingPeriod | faultStop => cases ho; exact floatsLimited_of_blocks limited rfl rfl
  | eventsClear | eventsMask | statsRead | statsClear | anglesArm | anglesWrite | stopModeWrite | syncSource | syncSet |
    syncClear | waitSync | stepAppend | queueRead | designDefine | designDelete | designInfo | designWindow | cellsRead | readMore |
    designSum | colormapRead | historyRead | faultInfo | weftSeqWrite | weftMapWrite =>
    cases ho
    simp only [takeEventsClear, takeEventsMask, takeStatsRead, takeStatsClear, takeAnglesArm, takeAnglesWrite, takeStopModeWrite,
      takeSyncSource, takeSyncSet, takeSyncClear, takeWaitSync, takeStepAppend, takeQueueRead, takeDesignDefine, takeDesignDelete,
      takeDesignInfo, takeDesignWindow, takeRead, takeDesignSum, takeColormapRead, takeHistoryRead, takeFaultInfo, takeWeftSeqWrite,
      takeWeftMapWrite]
    refine keeps ?_
    repeat' split
    all_goals exact floatsKept_of_blocks rfl rfl
  | _ => cases ho

end Sys2Proof.Machine.Program
end

section
/-! Every step keeps the float limits (R98, R100 to R103, R109). -/

namespace Sys2Proof.Machine.Program

open Sys2Proof Sys2Proof.Machine

variable {s : State}

/-! ### The two links -/

theorem floatsLimited_receiveMessage (limited : FloatsLimited s) (bytes : List Byte) : FloatsLimited (s.receiveMessage bytes) := by
  have taken : FloatsLimited s.messageTaken := floatsLimited_of_blocks limited rfl rfl
  unfold State.receiveMessage
  dsimp only
  split
  · unfold State.takeMessage
    split
    · exact (floatsKept_takeRun _).limited taken
    · exact (floatsKept_takeStop _ _ _).limited taken
    · exact (floatsKept_takeFind _).limited taken
    · exact floatsLimited_takePickBack taken
    · exact (floatsKept_takePackageOut _ _).limited taken
    · exact (floatsKept_takePackageReady _ _).limited taken
    · exact (floatsKept_takeReleaseWait _).limited taken
    · exact (floatsKept_sendState _ false).limited taken
    · exact floatsLimited_of_blocks taken (by simp) (by simp)
  · exact floatsLimited_of_blocks taken rfl rfl

theorem floatsLimited_receiveByte (limited : FloatsLimited s) (b : Byte) : FloatsLimited (s.receiveByte b) := by
  unfold State.receiveByte
  dsimp only
  split
  · exact floatsLimited_of_blocks limited rfl rfl
  · exact floatsLimited_receiveMessage limited _

theorem floatsKept_byteAfterGap (s : State) (b : Byte) : FloatsKept s (s.byteAfterGap b) := by
  unfold State.byteAfterGap
  dsimp only
  split <;> exact floatsKept_of_blocks rfl rfl

theorem floatsKept_done (kind : Byte) (taken : Taken) : FloatsKept taken.state (taken.done kind) := by
  unfold Taken.done
  split
  · exact floatsKept_of_blocks rfl rfl
  · exact .refl _

theorem floatsLimited_takeCommand {c : Instr} {owner : State → Taken} (limited : FloatsLimited s) (ho : ownerOf c = some owner) :
    FloatsLimited (s.takeCommand c owner) := by
  unfold State.takeCommand
  split
  · exact floatsLimited_of_blocks limited rfl rfl
  · have taken : FloatsKept s (s.frameIn (frameOf c)) := floatsKept_of_blocks rfl rfl
    exact (floatsKept_done _ _).limited (floatsLimited_owner (taken.limited limited) ho)

theorem floatsLimited_takeBracket (limited : FloatsLimited s) (bytes : List Byte) : FloatsLimited (s.takeBracket bytes) := by
  unfold State.takeBracket
  split
  · exact limited
  · split
    · exact floatsLimited_of_blocks limited rfl rfl
    · split
      · exact floatsLimited_of_blocks limited (by simp) (by simp)
      · next first rest _ _ =>
        have taken : FloatsLimited (s.frameIn (first :: rest)) := floatsLimited_of_blocks limited rfl rfl
        unfold State.endFrame
        split
        · unfold State.ownFrame
          split
          · next found =>
            obtain ⟨c, -, ho⟩ := Option.bind_eq_some_iff.1 found
            exact (floatsKept_done _ _).limited (floatsLimited_owner taken ho)
          · exact floatsLimited_of_blocks taken rfl rfl
        · next why _ =>
          cases why <;> exact floatsLimited_of_blocks taken rfl rfl

/-! ### The statement -/

/-- A row that is no design link command. -/
theorem floatsLimited_event {i : Instr} (limited : FloatsLimited s) (event : ownerOf i = none) :
    ∃ t, exec i s = .next t ∧ FloatsLimited t := by
  have keeps {t : State} (h : FloatsKept s t) : FloatsLimited t := h.limited limited
  have taken : FloatsLimited s.messageTaken := floatsLimited_of_blocks limited rfl rfl
  cases i with
  | powerOn => exact ⟨_, rfl, floatsLimited_of_uncomposed (.inl rfl) ⟨.nil, nofun⟩ rfl⟩
  | forwardStep early => exact ⟨_, rfl, floatsLimited_forwardStep limited early⟩
  | backwardStep => exact ⟨_, rfl, floatsLimited_of_blocks limited rfl rfl⟩
  | illegalTransition => exact ⟨_, rfl, floatsLimited_of_blocks limited (by simp) (by simp)⟩
  | forwardIndexCrossing => exact ⟨_, rfl, keeps (floatsKept_forwardIndexCrossing s)⟩
  | backwardIndexCrossing => exact ⟨_, rfl, floatsLimited_of_blocks limited (by simp) (by simp)⟩
  | deadTimeComplete early =>
    refine ⟨_, rfl, ?_⟩
    split
    · exact floatsLimited_forwardStep limited early
    · exact limited
  | compositionEnd =>
    refine ⟨_, rfl, ?_⟩
    split
    · exact (floatsKept_tryTransfer _).limited (floatsLimited_endComposition limited _ _)
    · exact limited
  | chainShiftComplete chain values final =>
    refine ⟨_, rfl, ?_⟩
    split
    · next x _ =>
      split
      · exact limited
      · split
        · exact keeps (floatsKept_shiftPassed s chain x _)
        · exact keeps (floatsKept_shiftFailed s chain x)
    · exact limited
  | agingPass => exact ⟨_, rfl, floatsLimited_of_blocks limited rfl rfl⟩
  | waitTimeout => exact ⟨_, rfl, floatsLimited_of_blocks limited (by simp) (by simp)⟩
  | defineClearDone =>
    refine ⟨_, rfl, keeps ?_⟩
    split
    · unfold State.defineDone
      split <;> exact floatsKept_of_blocks rfl rfl
    · exact .refl s
  | sumDone =>
    refine ⟨_, rfl, keeps ?_⟩
    split
    · unfold State.sumDone
      split <;> exact floatsKept_of_blocks rfl rfl
    · exact .refl s
  | probeCountEnd marker =>
    refine ⟨_, rfl, keeps ?_⟩
    split
    · next pr _ =>
      split
      · exact floatsKept_endCount s pr marker
      · exact .refl s
    · exact .refl s
  | run => exact ⟨_, rfl, (floatsKept_takeRun _).limited taken⟩
  | stop cause channel => exact ⟨_, rfl, (floatsKept_takeStop _ cause channel).limited taken⟩
  | find => exact ⟨_, rfl, (floatsKept_takeFind _).limited taken⟩
  | pickBack => exact ⟨_, rfl, floatsLimited_takePickBack taken⟩
  | packageOut channel => exact ⟨_, rfl, (floatsKept_takePackageOut _ channel).limited taken⟩
  | packageReady channel => exact ⟨_, rfl, (floatsKept_takePackageReady _ channel).limited taken⟩
  | releaseWait => exact ⟨_, rfl, (floatsKept_takeReleaseWait _).limited taken⟩
  | statusAsk => exact ⟨_, rfl, (floatsKept_sendState _ false).limited taken⟩
  | llMessageBadCheck message | llUnknownKind message => exact ⟨_, rfl, floatsLimited_receiveMessage limited message.toList⟩
  | llFramingError => exact ⟨_, rfl, floatsLimited_of_blocks limited rfl rfl⟩
  | llByteGap held byte =>
    have received : FloatsLimited (held.foldl State.receiveByte s) :=
      List.foldlRecOn _ _ limited fun _ limited b _ => floatsLimited_receiveByte limited b
    exact ⟨_, rfl, (floatsKept_byteAfterGap _ byte).limited received⟩
  | llMessageSent =>
    refine ⟨_, rfl, keeps ?_⟩
    split <;> exact floatsKept_of_blocks rfl rfl
  | responseRead clocked =>
    refine ⟨_, rfl, keeps ?_⟩
    split
    · exact floatsKept_of_blocks rfl rfl
    · exact floatsKept_of_blocks (by simp) (by simp)
  | busyDiscard bytes | dlUnknownFrame bytes | dlBadLengthFrame bytes | dlBadCheckFrame bytes =>
    exact ⟨_, rfl, floatsLimited_takeBracket limited bytes⟩
  | _ => cases event

/-- Settles O56: a step idles, or takes a design link command or another row. -/
theorem stepKeepsFloatsLimited : Obligations.StepKeepsFloatsLimited := by
  intro s t limited h
  unfold step at h
  split at h
  · cases h
    exact limited
  · next i rest _ =>
    have waits : FloatsLimited { s with pending := rest } := floatsLimited_of_blocks limited rfl rfl
    cases ho : ownerOf i with
    | some owner =>
      rw [exec_command ho] at h
      cases h
      exact floatsLimited_takeCommand waits ho
    | none =>
      obtain ⟨u, taken, kept⟩ := floatsLimited_event waits ho
      rw [taken] at h
      cases h
      exact kept

end Sys2Proof.Machine.Program
end

section
/-! The weft scan of a section alone (R102): what it raises, what it counts, and that a float no run counts as unresolved is not too long. -/

namespace Sys2Proof.Machine.Program

open Sys2Proof Sys2Proof.Machine

variable {lw : Nat} {l : Nat → Bool}

/-! ### Runs of lowered hooks and the runs that are too long -/

/-- A run is told by the hooks of its section, from whichever hook the section begins. -/
theorem runBefore_offset (l : Nat → Bool) (f i : Nat) : runBefore l f (f + i) = runBefore (fun j => l (f + j)) 0 i := by
  simp [runBefore]

/-- Lowered hooks in a row stand in one run. -/
theorem le_runBefore {i m : Nat} (lowered : ∀ j, j < m → l (i + j) = false) : m ≤ runBefore l 0 (i + m) := by
  induction m with
  | zero => exact Nat.zero_le _
  | succ m ih =>
    have before := ih fun j hj => lowered j (Nat.lt_succ_of_lt hj)
    rw [← Nat.add_assoc, runBefore_succ l (Nat.zero_le _), lowered m (Nat.lt_succ_self m)]
    exact Nat.succ_le_succ before

/-- A run too long at hook `k` is counted where it ends, among the hooks that are left. -/
theorem longRuns_pos {k : Nat} (left : Nat) (long : lw < runBefore l 0 k) : 0 < longRuns lw l 0 (k + left) := by
  induction left generalizing k with
  | zero => exact List.countP_pos_iff.2 ⟨k, by simp, by simp [long]⟩
  | succ left ih =>
    cases raised : l k with
    | true => exact List.countP_pos_iff.2 ⟨k, by simp, by simp [long, raised]⟩
    | false =>
      have grown : lw < runBefore l 0 (k + 1) := by
        rw [runBefore_succ l (Nat.zero_le k), raised]
        exact Nat.lt_succ_of_lt long
      rw [← Nat.add_assoc, Nat.add_right_comm]
      exact ih grown

/-- With no run too long, any `lw + 1` hooks in a row hold a raised one. -/
theorem exists_raised_of_longRuns {c i : Nat} (short : longRuns lw l 0 c = 0) (hi : i + lw < c) : ∃ j, j ≤ lw ∧ l (i + j) = true := by
  by_contra lowered
  have run : lw < runBefore l 0 (i + (lw + 1)) := le_runBefore fun j hj =>
    Bool.eq_false_iff.2 fun raised => lowered ⟨j, Nat.le_of_lt_succ hj, raised⟩
  have counted := longRuns_pos (c - (i + (lw + 1))) run
  rw [Nat.add_sub_cancel' (by omega), short] at counted
  exact Nat.lt_irrefl 0 counted

/-- Where every hook with `lw` lowered hooks just before it is raised, no run is too long. -/
theorem longRuns_eq_zero {c : Nat} (limited : ∀ i, i < c → lw ≤ runBefore l 0 i → l i = true) : longRuns lw l 0 c = 0 := by
  have short (i : Nat) (hi : i ≤ c) : runBefore l 0 i ≤ lw := by
    induction i with
    | zero => simp [runBefore_first]
    | succ i ih =>
      have below := ih (Nat.le_of_succ_le hi)
      have raise := limited i hi
      rw [runBefore_succ l (Nat.zero_le i)]
      cases lowered : l i with
      | true => exact Nat.zero_le _
      | false =>
        rw [lowered] at raise
        have : ¬ lw ≤ runBefore l 0 i := fun full => Bool.false_ne_true (raise full)
        rw [if_neg Bool.false_ne_true]
        omega
  rw [longRuns, List.countP_eq_zero]
  intro j hj
  have := short j (Nat.le_of_lt_succ (List.mem_range.1 hj))
  simp [Nat.not_lt.2 this]

/-! ### The scan -/

/-- The weft scan forces no hook down. -/
theorem weftScan_down (lw : Nat) (bar : Nat → Bool) (h run : Nat) (bits : List Bool) : (weftScan lw bar h run bits).down = 0 := by
  induction bits generalizing h run with
  | nil => rfl
  | cons b rest ih =>
    cases b with
    | true => exact ih _ _
    | false =>
      rw [weftScan]
      split <;> exact ih _ _

/-- An entry of a list of lift values, where there is one. -/
theorem getElem?_eq_some_iff_getD {bits : List Bool} {i : Nat} {b : Bool} :
    bits[i]? = some b ↔ i < bits.length ∧ bits.getD i false = b := by
  rw [List.getElem?_eq_some_iff]
  constructor
  · rintro ⟨hi, rfl⟩
    exact ⟨hi, List.getD_eq_getElem _ _ hi⟩
  · rintro ⟨hi, rfl⟩
    exact ⟨hi, (List.getD_eq_getElem _ _ hi).symm⟩

/-- Settles O30: the values and counts of the scan over the lift it leaves, and the floats its runs limit. -/
theorem weftScanLimitsFloats : Obligations.WeftScanLimitsFloats := by
  intro lw bar f bits x raised
  obtain ⟨length, kept⟩ := weftScan_bits lw bar f 0 bits
  let l := fun h => raised (h - f)
  have offset (i : Nat) : l (f + i) = raised i := congrArg raised (Nat.add_sub_cancel_left f i)
  have run (i : Nat) : runBefore l f (f + i) = runBefore raised 0 i := by
    rw [runBefore_offset, funext offset]
  obtain ⟨values, up, unresolved⟩ := weftScan_spec lw bar l (Nat.le_refl f) bits
    (congrArg (weftScan lw bar f · bits) (runBefore_first l f).symm) fun i _ => offset i
  simp only [offset, run] at values up unresolved
  replace unresolved : x.unresolved = longRuns lw raised 0 bits.length := by
    rw [longRuns]
    simpa only [Nat.zero_add] using unresolved
  refine ⟨length, fun i hi => ?_, fun i hi => ?_, weftScan_down lw bar f 0 bits, up, unresolved, fun free => ?_, fun short i hi => ?_⟩
  · obtain ⟨inside, was⟩ := getElem?_eq_some_iff_getD.1 hi
    exact getElem?_eq_some_iff_getD.2 ⟨length.symm ▸ inside, (kept i).1 was⟩
  · obtain ⟨inside, was⟩ := getElem?_eq_some_iff_getD.1 hi
    refine getElem?_eq_some_iff_getD.2 ⟨length.symm ▸ inside, (values i inside).trans ?_⟩
    rw [was, Bool.false_or]
  · rw [unresolved]
    refine longRuns_eq_zero fun i hi full => ?_
    rw [values i hi, free i hi, decide_eq_true full]
    simp
  · obtain ⟨j, hj, up⟩ := exists_raised_of_longRuns (unresolved ▸ short) hi
    exact ⟨j, hj, getElem?_eq_some_iff_getD.2 ⟨by rw [length]; omega, up⟩⟩

end Sys2Proof.Machine.Program
end

section
/-! STATUS_READ, the event commands and the statistics commands (R111, R141, R176, R188 to R190). -/

namespace Sys2Proof.Machine.Program

open Sys2Proof Sys2Proof.Machine

/-! ### Event flags and masks (R188, R189) -/

/-- A mask with bit 15 set is outside its field. -/
theorem eventMaskOf_eq_none {mask : BitVec 16} (high : mask.getLsbD 15 = true) : eventMaskOf mask = none := if_pos high

/-- A mask with bit 15 clear is stored by its 15 flags. -/
theorem eventMaskOf_eq_some {mask : BitVec 16} (low : mask.getLsbD 15 = false) : eventMaskOf mask = some (mask.setWidth 15) := by
  rw [eventMaskOf, if_neg (Bool.eq_false_iff.1 low), BitVec.setWidth_eq_extractLsb' (by decide)]

/-- The mask an answer carries is the one the command gave. -/
theorem maskPayload_setWidth {mask : BitVec 16} (low : mask.getLsbD 15 = false) : maskPayload (mask.setWidth 15) = bytes16 mask := by
  have whole : (mask.setWidth 15).setWidth 16 = mask := by
    refine BitVec.eq_of_getLsbD_eq fun i hi => ?_
    rw [BitVec.getLsbD_setWidth, BitVec.getLsbD_setWidth, decide_eq_true hi, Bool.true_and]
    rcases Nat.lt_or_eq_of_le (Nat.le_of_lt_succ hi) with below | rfl
    · rw [decide_eq_true below, Bool.true_and]
    · rw [low, Bool.and_false]
  rw [maskPayload, whole]

/-- EVENTS_CLEAR leaves the flags outside its mask, and those alone (R188). -/
theorem getLsbD_cleared (flags : BitVec 15) (mask : BitVec 16) (i : Nat) :
    (flags &&& ~~~(mask.setWidth 15)).getLsbD i = (flags.getLsbD i && !mask.getLsbD i) := by
  rw [BitVec.getLsbD_and, BitVec.getLsbD_not, BitVec.getLsbD_setWidth]
  by_cases hi : i < 15
  · rw [decide_eq_true hi, Bool.true_and, Bool.true_and]
  · rw [BitVec.getLsbD_of_ge _ _ (Nat.le_of_not_lt hi), Bool.false_and, Bool.false_and]

/-! ### Statistics (R190) -/

variable {s : State} {group : Byte}

theorem takeStatsRead_of_payload {payload : List Byte} (given : s.statsPayload group = some payload) :
    takeStatsRead group s = .accept payload s := by
  rw [takeStatsRead, given]

theorem takeStatsClear_of_group {x : Evs} (given : s.evs.clearGroup group = some x) :
    takeStatsClear group s = .accept [] { s with evs := x } := by
  rw [takeStatsClear, given]

/-- STATS_READ has no group above 4. -/
theorem takeStatsRead_high (high : 5 ≤ group.toNat) : takeStatsRead group s = .refuse .badField s := by
  have no_payload : s.statsPayload group = none := by
    unfold State.statsPayload
    split
    case h_6 => rfl
    all_goals omega
  rw [takeStatsRead, no_payload]

/-- STATS_CLEAR has no group above 4. -/
theorem takeStatsClear_high (high : 5 ≤ group.toNat) : takeStatsClear group s = .refuse .badField s := by
  have no_group : s.evs.clearGroup group = none := by
    unfold Evs.clearGroup
    split
    case h_6 => rfl
    all_goals omega
  rw [takeStatsClear, no_group]

/-- Settles O52: each command read off its owner, with the answer in the order of its rule. -/
theorem statusEventsAndStatistics : Obligations.StatusEventsAndStatistics := by
  intro s hb brief counters flagBytes read clear
  have reads (group : Byte) (payload : List Byte) (given : s.statsPayload group = some payload) : read group payload :=
    accepts_plain rfl hb (takeStatsRead_of_payload given)
  have clears (group : Byte) (x : Evs) (given : s.evs.clearGroup group = some x) : clear group x :=
    accepts_plain rfl hb (takeStatsClear_of_group given)
  refine ⟨accepts_plain rfl hb rfl, accepts_plain rfl hb rfl, fun mask => ⟨fun high => ⟨?_, ?_⟩, fun low => ⟨?_, ?_⟩⟩,
    reads 0 _ ?_, reads 1 _ rfl, reads 2 _ rfl, reads 3 _ rfl, reads 4 _ rfl,
    clears 0 _ rfl, clears 1 _ rfl, clears 2 _ rfl, clears 3 _ rfl, clears 4 _ rfl, fun group high => ⟨?_, ?_⟩⟩
  · exact refuses_of_owner rfl hb (by rw [takeEventsClear, eventMaskOf_eq_none high])
  · exact refuses_of_owner rfl hb (by rw [takeEventsMask, eventMaskOf_eq_none high])
  · refine accepts_plain rfl hb ?_
    rw [takeEventsMask, eventMaskOf_eq_some low, ← maskPayload_setWidth low]
    rfl
  · refine ⟨s.evs.flags &&& ~~~(mask.setWidth 15), getLsbD_cleared s.evs.flags mask, accepts_plain rfl hb ?_⟩
    rw [takeEventsClear, eventMaskOf_eq_some low]
    rfl
  · simp [State.statsPayload, countersPayload, WeftStats.list, counters]
  · exact refuses_of_owner rfl hb (takeStatsRead_high high)
  · exact refuses_of_owner rfl hb (takeStatsClear_high high)

end Sys2Proof.Machine.Program
end

section
/-! PICK_BACK refused: the tests in their order (R119). -/

namespace Sys2Proof.Machine.Program

open Sys2Proof Sys2Proof.Machine

variable {s : State}

/-- A pick back that fails a test is answered REFUSED, and nothing else is done. -/
theorem exec_pickBack_of_refusal {why : Reason} (fails : s.pickBackRefusal = some why) :
    exec .pickBack s = .next (State.send { s with llp.received := [] } (.refused 0x04#8 why)) := by
  have refused : s.messageTaken.takePickBack = s.messageTaken.refuseMessage 0x04#8 why := by
    unfold State.takePickBack
    rw [show s.messageTaken.pickBackRefusal = some why from fails]
  exact congrArg Host.Outcome.next refused

/-- Settles O20: the tests of R119 in their order, each with those before it passed. -/
theorem pickBackRefusals : Obligations.PickBackRefusals := by
  intro s refused c1 c2 c3 c4
  have idle (h : c2) : ¬ s.ph.representing.isSome := by simp [show s.ph.representing = none from h]
  refine ⟨fun going => exec_pickBack_of_refusal (if_pos going), fun finding presents => exec_pickBack_of_refusal ?_,
    fun finding quiet none_woven => exec_pickBack_of_refusal ?_, fun finding quiet woven short => exec_pickBack_of_refusal ?_⟩
  · rw [State.pickBackRefusal, if_neg (not_not.2 finding), if_pos (Option.isSome_iff_ne_none.2 presents)]
  · have empty : s.ph.ring = [] := by simpa [c3] using none_woven
    rw [State.pickBackRefusal, if_neg (not_not.2 finding), if_neg (idle quiet), if_pos empty]
  · have filled : s.ph.ring ≠ [] := List.ne_nil_of_length_pos woven
    rw [State.pickBackRefusal, if_neg (not_not.2 finding), if_neg (idle quiet), if_neg filled]
    exact if_neg short

end Sys2Proof.Machine.Program
end

section
/-! SOFT_RESET (R177): what each block keeps and what it loses (R178). -/

namespace Sys2Proof.Machine.Program

open Sys2Proof Sys2Proof.Machine

variable {s : State}

/-- The chains after a soft reset: unprobed where they have modules, else disabled, with image 0 and no shift (R142). -/
theorem softReset_chain {i : Nat} (hi : i < 4) : s.softReset.chain i =
    { s.chain i with state := if (s.chain i).modules = 0 then .disabled else .unprobed, image := 0, probe := .absent, shift := none } :=
  tabGet_tabMap _ _ i hi _ _

/-- The weft map after a soft reset: every channel primary and not exhausted (R170). -/
theorem softReset_entry {w : Nat} (hw : w < 8) :
    s.softReset.wsu.entry w = { s.wsu.entry w with selection := .primary, exhausted := false } :=
  tabGet_tabMap _ _ w hw _ _

/-- Every channel is READY after a soft reset (R170). -/
theorem softReset_isReady {w : Nat} (hw : w < 8) : s.softReset.wsu.isReady w = true := by
  simp [State.softReset, Wsu.softReset, Wsu.isReady, tabGet, hw]

/-- The STATE report after a soft reset of a stopped part joins an empty queue (R177, R187). -/
theorem sendState_softReset : s.softReset.sendState false = { s.softReset with llp.queue :=
    [.state { weaving := .stopped, shedG := none, tag := none, channel := none, clamped := false, representing := false, finger := .off }] } :=
  send_room _ (by simp [State.softReset, Llp.softReset])

/-- Settles O53: the tests of R177, and each block at its soft-reset values. -/
theorem softReset : Obligations.SoftReset := by
  intro s free
  refine ⟨fun going => refuses_of_owner rfl free (if_pos going), fun stopped => ⟨s.softReset.sendState false, ?_, ?_⟩⟩
  · have taken : takeSoftReset (s.frameIn (frameOf .softReset)) = .accept [] ((s.softReset.sendState false).frameIn (frameOf .softReset)) := by
      rw [sendState_softReset]
      refine (if_neg (not_not.2 stopped)).trans ?_
      rw [sendState_softReset]
      rfl
    exact accepts_plain rfl free taken
  · rw [sendState_softReset]
    refine ⟨?_, rfl, rfl, rfl, rfl, rfl, rfl, ⟨rfl, rfl, fun i hi => softReset_chain hi⟩, rfl,
      ⟨rfl, fun w hw => ⟨softReset_entry hw, softReset_isReady hw⟩⟩, ⟨rfl, rfl, ?_⟩, rfl, rfl, rfl⟩
    · show s.stu.softReset = _
      simp only [Stu.softReset, ← stopped]
    · show s.llp.softReset.sending = _
      simp only [Llp.softReset]
      cases s.llp.sending <;> rfl

end Sys2Proof.Machine.Program
end

section
/-! What a chain shifts in and what its echo shows: the marker, the sensed states, the mismatches (R133, R134). -/

namespace Sys2Proof.Machine.Program

open Sys2Proof Sys2Proof.Machine

/-! ### The values shifted in (R133) -/

theorem valuesIn_length (c : Chain) (d : Share) : (c.valuesIn d).length = c.modules * 64 + 1 := by
  simp [Chain.valuesIn, Chain.hooks, Config.hooksPerModule]

/-- The drive values follow the marker, the highest hook first. -/
theorem valuesIn_level (c : Chain) (d : Share) {i : Nat} (hi : i < c.modules * 64) :
    (c.valuesIn d)[c.modules * 64 - i]? = some (.level (d.getLsbD i)) := by
  rw [← show c.hooks = c.modules * 64 from rfl] at hi ⊢
  have place : c.hooks - i = (c.hooks - 1 - i) + 1 := by omega
  have back : c.hooks - 1 - (c.hooks - 1 - i) = i := by omega
  rw [Chain.valuesIn, place, List.getElem?_cons_succ, List.getElem?_map, List.getElem?_reverse (by simp; omega), List.length_range, back,
    List.getElem?_range hi]
  rfl

/-! ### The mismatches of an echo (R134) -/

variable {c hooks : Nat} {image sensed sensed' : Share}

/-- The mismatches rest on the hooks the chain has. -/
theorem mismatches_congr (agree : ∀ i, i < hooks → sensed.getLsbD i = sensed'.getLsbD i) :
    mismatches c hooks image sensed = mismatches c hooks image sensed' := by
  have found : ((List.range hooks).filter fun i => image.getLsbD i != sensed.getLsbD i) =
      (List.range hooks).filter fun i => image.getLsbD i != sensed'.getLsbD i :=
    List.filter_congr fun i hi => by rw [agree i (List.mem_range.1 hi)]
  rw [mismatches, mismatches, found]
  refine List.map_congr_left fun i hi => ?_
  rw [agree i (List.mem_range.1 (List.mem_of_mem_filter hi))]

/-- With the echo as the image there is none. -/
theorem mismatches_eq_nil (same : ∀ i, i < hooks → sensed.getLsbD i = image.getLsbD i) : mismatches c hooks image sensed = [] := by
  rw [mismatches_congr same]
  simp [mismatches]

/-- One hook sensed otherwise than its image. -/
theorem mismatches_eq_singleton {i : Nat} (hi : i < hooks)
    (alone : ∀ j, j < hooks → (sensed.getLsbD j ≠ image.getLsbD j ↔ j = i)) :
    mismatches c hooks image sensed = [(c * 3072 + i, if image.getLsbD i then .stuckDown else .stuckUp)] := by
  have found : ((List.range hooks).filter fun j => image.getLsbD j != sensed.getLsbD j) = [i] := by
    have only : ∀ j ∈ List.range hooks, (image.getLsbD j != sensed.getLsbD j) = (j == i) := fun j hj => by
      rw [Bool.eq_iff_iff, bne_iff_ne, beq_iff_eq, ne_comm]
      exact alone j (List.mem_range.1 hj)
    rw [List.filter_congr only, List.filter_beq, List.count_eq_one_of_mem List.nodup_range (List.mem_range.2 hi)]
    rfl
  have other : sensed.getLsbD i = !image.getLsbD i := Bool.eq_not_iff.2 ((alone i hi).2 rfl)
  rw [mismatches, found, List.map_singleton, other]
  cases image.getLsbD i <;> rfl

/-- How many hooks of the echo differ from the image. -/
theorem mismatches_length :
    (mismatches c hooks image sensed).length = (List.range hooks).countP fun i => sensed.getLsbD i != image.getLsbD i := by
  rw [mismatches, List.length_map, ← List.countP_eq_length_filter]
  exact List.countP_congr fun i _ => by rw [bne_comm]

/-! ### The completion that an echo brings about -/

variable {s : State} {n : Fin 4} {values : List ChainValue} {final : ChainValue}

/-- A completion rests on what the echo says of the hooks the chain has. -/
theorem shiftPassed_congr {x : Shift} (agree : ∀ i, i < (s.chain n.val).hooks → sensed.getLsbD i = sensed'.getLsbD i) :
    s.shiftPassed n x sensed = s.shiftPassed n x sensed' := by
  have hooks : ((s.updateChain n.val Chain.complete).chain n.val).hooks = (s.chain n.val).hooks := by
    have updated : (s.updateChain n.val Chain.complete).chain n.val = if n.val = n.val ∧ n.val < 4 then _ else _ := tabGet_tabSet ..
    rw [updated, if_pos ⟨rfl, n.isLt⟩]
    rfl
  have compared : (s.updateChain n.val Chain.complete).compareEcho n.val sensed =
      (s.updateChain n.val Chain.complete).compareEcho n.val sensed' := by
    rw [State.compareEcho, State.compareEcho, mismatches_congr (hooks ▸ agree)]
  rw [State.shiftPassed, State.shiftPassed, compared, mismatches_congr agree]

/-- A chain that shifts drive values completes when its echo passes the marker check (R133). -/
theorem exec_chainShiftComplete_sound {x : Shift} (echo : SoundEcho ((s.chain n.val).modules * 64) sensed values final)
    (shifts : (s.chain n.val).shift = some x) (going : x.done = false) (drives : x.work ≠ .probe) :
    exec (.chainShiftComplete n values final) s = .next (s.shiftPassed n x sensed) := by
  obtain ⟨whole, -, -⟩ := id echo
  have occurs : ¬ (x.done ∨ x.work = .probe ∨ values.length + 1 ≠ ((s.chain n.val).valuesIn x.drive).length) := by
    simp [going, drives, whole, valuesIn_length]
  have sensing : ∀ i, i < (s.chain n.val).hooks → (descending values).getLsbD i = sensed.getLsbD i := fun i hi => by
    by_cases wide : i < 3072
    · exact getLsbD_descending_soundEcho echo i hi wide
    · rw [BitVec.getLsbD_of_ge _ _ (Nat.le_of_not_lt wide), BitVec.getLsbD_of_ge _ _ (Nat.le_of_not_lt wide)]
  show execChainShiftComplete n values final s = _
  rw [execChainShiftComplete]
  simp only [shifts]
  rw [if_neg occurs, if_pos (markerSound_of_soundEcho echo), shiftPassed_congr sensing]

end Sys2Proof.Machine.Program
end

section
/-! One mismatch reported to the fault table: the entry learned, refreshed or left, and the stop it may ask for (R146 to R148). -/

namespace Sys2Proof.Machine.Program

open Sys2Proof Sys2Proof.Machine

/-! ### An entry put into the table -/

/-- The entry of a hook once one is put. -/
theorem find_putEntry (x : Hft) (e : FaultEntry) (h : Nat) :
    Hft.find { x with entries := putEntry e x.entries } h = if e.hook = h then some e else x.find h := by
  show (putEntry e x.entries).find? _ = if e.hook = h then some e else x.entries.find? _
  induction x.entries with
  | nil => by_cases key : e.hook = h <;> simp [putEntry, key]
  | cons y rest ih =>
    simp only [putEntry]
    split
    · by_cases key : e.hook = h <;> simp [key]
    · split
      · next own => by_cases key : e.hook = h <;> simp [key, ← own]
      · next other =>
        by_cases key : y.hook = h
        · simp [key, show e.hook ≠ h by omega]
        · simpa [key] using ih

/-- An entry put twice for one hook: the second stays. -/
theorem putEntry_putEntry {e e' : FaultEntry} (key : e'.hook = e.hook) (l : List FaultEntry) :
    putEntry e' (putEntry e l) = putEntry e' l := by
  induction l with
  | nil => simp [putEntry, key]
  | cons y rest ih =>
    simp only [putEntry, key]
    split
    · simp [putEntry, key]
    · next above =>
      split
      · simp [putEntry, key]
      · next other => simp [putEntry, key, above, other, ih]

/-- The size of the table after an entry is put for a hook that has one, or has none (R143). -/
theorem putEntry_length_of_find {x : Hft} (sorted : x.entries.Pairwise fun a b => a.hook < b.hook) (e : FaultEntry) :
    (putEntry e x.entries).length = if (x.find e.hook).isSome then x.entries.length else x.entries.length + 1 := by
  simp only [putEntry_length _ _ sorted, Hft.find, List.find?_isSome, List.any_eq_true]

/-! ### The stop an entry asks for (R148) -/

/-- A LEARNED entry asks for a stop: it has sent none, and its count has reached the threshold (R148). -/
def AsksStop (x : Hft) (count : Nat) (sent : Bool) : Prop := sent = false ∧ 0 < x.threshold ∧ x.threshold ≤ count

/-- A LEARNED entry with its age flag set is stored for hook `h`, and asks for a stop where it is due; the table then has so many entries. -/
def Stored (s t : State) (h : Nat) (sense : Sense) (count : Nat) (sent : Bool) (entries : Nat) : Prop :=
  (AsksStop s.hft count sent →
    t.hft.find h = some { hook := h, kind := .learned true true, count := count, sense := some sense } ∧
    t.llp = { s.llp with queue := s.llp.queue ++ [.stopRequest .hookFault] }) ∧
  (¬ AsksStop s.hft count sent →
    t.hft.find h = some { hook := h, kind := .learned true sent, count := count, sense := some sense } ∧ t.llp = s.llp) ∧
  (∀ g, g ≠ h → t.hft.find g = s.hft.find g) ∧ t.hft = { s.hft with entries := t.hft.entries } ∧ t.hft.entries.length = entries

variable {s u : State} {h count : Nat} {sent : Bool} {sense : Sense}

/-- An entry that stands for its hook asks, and with it asked the flag is set in the entry (R148). -/
theorem askStop_of_find {age : Bool} (found : u.hft.find h = some ⟨h, .learned age sent, count, some sense⟩)
    (room : u.llp.queue.length < 16) :
    (AsksStop u.hft count sent → u.askStop h = { u with
      llp.queue := u.llp.queue ++ [.stopRequest .hookFault]
      hft.entries := putEntry ⟨h, .learned age true, count, some sense⟩ u.hft.entries }) ∧
    (¬ AsksStop u.hft count sent → u.askStop h = u) := by
  unfold State.askStop AsksStop
  rw [found]
  cases sent with
  | true => exact ⟨fun asks => Bool.noConfusion asks.1, fun _ => rfl⟩
  | false =>
    refine ⟨fun ⟨_, positive, reached⟩ => ?_, fun quiet => if_neg fun ⟨positive, reached⟩ =>
      quiet ⟨rfl, Nat.pos_of_ne_zero positive, reached⟩⟩
    refine (if_pos ⟨Nat.ne_of_gt positive, reached⟩).trans ?_
    rw [State.requestStop, send_room _ room]

/-- A LEARNED entry put and asked about. -/
theorem stored_askStop (put : u.hft = { s.hft with entries := putEntry ⟨h, .learned true sent, count, some sense⟩ s.hft.entries })
    (llp : u.llp = s.llp) (sorted : s.hft.entries.Pairwise fun a b => a.hook < b.hook) (room : s.llp.queue.length < 16) :
    Stored s (u.askStop h) h sense count sent (if (s.hft.find h).isSome then s.hft.entries.length else s.hft.entries.length + 1) ∧
    (u.askStop h).evs = u.evs := by
  have find_own (sent : Bool) : Hft.find { s.hft with entries := putEntry ⟨h, .learned true sent, count, some sense⟩ s.hft.entries } h =
      some ⟨h, .learned true sent, count, some sense⟩ := by rw [find_putEntry, if_pos rfl]
  have find_other (sent : Bool) (g : Nat) (other : g ≠ h) :
      Hft.find { s.hft with entries := putEntry ⟨h, .learned true sent, count, some sense⟩ s.hft.entries } g = s.hft.find g := by
    rw [find_putEntry, if_neg (Ne.symm other)]
  obtain ⟨asked, unasked⟩ := askStop_of_find (u := u) (put ▸ find_own sent) (llp ▸ room)
  have threshold : AsksStop u.hft count sent ↔ AsksStop s.hft count sent := by rw [put]; rfl
  rw [threshold] at asked unasked
  by_cases asks : AsksStop s.hft count sent
  · rw [asked asks, put, llp]
    simp only [putEntry_putEntry (e := ⟨h, .learned true sent, count, some sense⟩) (e' := ⟨h, .learned true true, count, some sense⟩) rfl]
    exact ⟨⟨fun _ => ⟨find_own true, rfl⟩, fun quiet => absurd asks quiet, find_other true, rfl, putEntry_length_of_find sorted _⟩, trivial⟩
  · rw [unasked asks]
    unfold Stored
    rw [put, llp]
    exact ⟨⟨fun asks' => absurd asks' asks, fun _ => ⟨find_own sent, rfl⟩, find_other sent, rfl, putEntry_length_of_find sorted _⟩, rfl⟩

/-! ### A mismatch reported (R146, R147) -/

section Report

variable (sorted : s.hft.entries.Pairwise fun a b => a.hook < b.hook) (room : s.llp.queue.length < 16)
include sorted room

/-- A hook with no entry that serves none is learned (R146). -/
theorem reportMismatch_learned (fresh : s.hft.find h = none) (serves : s.hft.substituted h = none) (fits : s.hft.entries.length < 128) :
    Stored s (s.reportMismatch (h, sense)) h sense 1 false (s.hft.entries.length + 1) ∧
    (s.reportMismatch (h, sense)).evs =
      { s.evs with flags := s.evs.flags ||| EventFlag.bit .hookLearned, learned := some (h, sense) } := by
  have learns : s.reportMismatch (h, sense) = s.learn h sense := by
    simp only [State.reportMismatch, fresh, serves]
    exact if_pos fits
  have stored := stored_askStop (s := s) (sent := false) (count := 1) (sense := sense) (h := h) (u := { State.raise
    { s with hft.entries := putEntry ⟨h, .learned true false, 1, some sense⟩ s.hft.entries } .hookLearned with
      evs.learned := some (h, sense) }) rfl rfl sorted room
  rw [fresh] at stored
  rw [learns]
  exact stored

/-- A LEARNED entry is refreshed (R146). -/
theorem reportMismatch_refreshed {e : FaultEntry} {age : Bool} (found : s.hft.find h = some e) (learned : e.kind = .learned age sent) :
    Stored s (s.reportMismatch (h, sense)) h sense (min (e.count + 1) 255) sent s.hft.entries.length ∧
    (s.reportMismatch (h, sense)).evs = s.evs := by
  obtain ⟨hook, kind, count, last⟩ := e
  subst learned
  have refreshes : s.reportMismatch (h, sense) = State.askStop
      { s with hft.entries := putEntry ⟨h, .learned true sent, min (count + 1) 255, some sense⟩ s.hft.entries } h := by
    simp only [State.reportMismatch, found]
  have stored := stored_askStop (s := s) (sent := sent) (count := min (count + 1) 255) (sense := sense) (h := h)
    (u := { s with hft.entries := putEntry ⟨h, .learned true sent, min (count + 1) 255, some sense⟩ s.hft.entries }) rfl rfl sorted room
  rw [found] at stored
  rw [refreshes]
  exact stored

end Report

/-- A full table counts the miss (R147). -/
theorem reportMismatch_full (fresh : s.hft.find h = none) (serves : s.hft.substituted h = none) (full : 128 ≤ s.hft.entries.length) :
    s.reportMismatch (h, sense) = { s with
      hft.fullMisses := bump s.hft.fullMisses, evs.flags := s.evs.flags ||| EventFlag.bit .faultTableFull } := by
  simp only [State.reportMismatch, fresh, serves]
  exact if_neg (Nat.not_lt.2 full)

/-- A substitute's mismatch is counted, and learns nothing (R146). -/
theorem reportMismatch_spare (fresh : s.hft.find h = none) (serves : (s.hft.substituted h).isSome) :
    s.reportMismatch (h, sense) = { s with hft.spareMismatch := bump s.hft.spareMismatch } := by
  simp only [State.reportMismatch, fresh, serves, if_true]

/-- A STATIC entry is left (R146). -/
theorem reportMismatch_fixed {e : FaultEntry} {a : FaultAction} (found : s.hft.find h = some e) (fixed : e.kind = .fixed a) :
    s.reportMismatch (h, sense) = s := by
  obtain ⟨hook, kind, count, last⟩ := e
  subst fixed
  simp only [State.reportMismatch, found]

/-! ### The comparison of a whole echo (R134) -/

/-- A report changes the fault table, the transmit queue and the event unit alone. -/
theorem reportMismatch_eq (s : State) (r : Nat × Sense) : s.reportMismatch r =
    { s with hft := (s.reportMismatch r).hft, llp := (s.reportMismatch r).llp, evs := (s.reportMismatch r).evs } := by
  obtain ⟨stu, pq, ps, wct, pcm, flm, ph, hcu, wsu, dlp, free, pending⟩ := s.reportMismatch_frame r
  generalize s.reportMismatch r = t at *
  rw [← stu, ← pq, ← ps, ← wct, ← pcm, ← flm, ← ph, ← hcu, ← wsu, ← dlp, ← free, ← pending]

/-- A row of reports changes no more. -/
theorem reports_move (l : List (Nat × Sense)) (s : State) :
    ∃ hft llp evs, l.foldl State.reportMismatch s = { s with hft := hft, llp := llp, evs := evs } := by
  induction l generalizing s with
  | nil => exact ⟨_, _, _, rfl⟩
  | cons r rest ih =>
    obtain ⟨hft, llp, evs, reported⟩ := ih (s.reportMismatch r)
    exact ⟨hft, llp, evs, by rw [List.foldl_cons, reported, reportMismatch_eq]⟩

/-- A comparison changes the fault table, the transmit queue and the event unit alone. -/
theorem compareEcho_moves (s : State) (c : Nat) (sensed : Share) :
    ∃ hft llp evs, s.compareEcho c sensed = { s with hft := hft, llp := llp, evs := evs } :=
  reports_move _ _

/-- An echo as the image is no report, and counts nothing. -/
theorem compareEcho_same {c : Nat} {sensed : Share} (same : ∀ i, i < (s.chain c).hooks → sensed.getLsbD i = (s.chain c).image.getLsbD i) :
    s.compareEcho c sensed = s := by
  have uncounted : countAt s.evs.chains.echoMismatch c 0 = s.evs.chains.echoMismatch := by
    rw [countAt, satAdd_zero]
    ext i hi : 1
    by_cases own : c = i <;> simp [tabSet, tabGet, own, hi]
  rw [State.compareEcho, mismatches_eq_nil same]
  simp only [List.length_nil, List.foldl_nil, uncounted]

/-- One mismatching hook is counted, then reported. -/
theorem compareEcho_alone {c i : Nat} {sensed : Share} (hi : i < (s.chain c).hooks)
    (alone : ∀ j, j < (s.chain c).hooks → (sensed.getLsbD j ≠ (s.chain c).image.getLsbD j ↔ j = i)) :
    s.compareEcho c sensed =
      State.reportMismatch { s with evs.chains.echoMismatch := countAt s.evs.chains.echoMismatch c 1 }
        (c * 3072 + i, if (s.chain c).image.getLsbD i then .stuckDown else .stuckUp) := by
  rw [State.compareEcho, mismatches_eq_singleton hi alone]
  rfl

end Sys2Proof.Machine.Program
end

section
/-! A chain completes with its marker in place: its transfer, its re-presentation, its presentation (R121, R123, R131, R133, R134). -/

namespace Sys2Proof.Machine.Program

open Sys2Proof Sys2Proof.Machine

variable {s v : State} {c : Fin 4} {d sensed : Share}

/-! ### The chain that completes -/

/-- A chain's record after one is changed. -/
theorem updateChain_chain (s : State) (c : Fin 4) (f : Chain → Chain) (i : Nat) :
    (s.updateChain c.val f).chain i = if c.val = i then f (s.chain c.val) else s.chain i := by
  have read : (s.updateChain c.val f).chain i = if c.val = i ∧ c.val < 4 then f (s.chain c.val) else s.chain i := tabGet_tabSet ..
  simpa [c.isLt] using read

/-- The state once chain `c` has shifted its last value for a work, before its echo is compared. -/
def completed (s : State) (c : Fin 4) (work : ShiftWork) (d : Share) : State :=
  { s with hcu.chains := tabSet s.hcu.chains c.val { s.chain c.val with shift := some ⟨work, d, true⟩ } }

theorem completed_eq {work : ShiftWork} (shifts : (s.chain c.val).shift = some ⟨work, d, false⟩) :
    s.updateChain c.val Chain.complete = completed s c work d := by
  simp only [State.updateChain, Chain.complete, shifts, Option.map_some, completed]

theorem completed_chain (s : State) (c : Fin 4) (work : ShiftWork) (d : Share) (i : Nat) :
    (completed s c work d).chain i = if c.val = i then { s.chain c.val with shift := some ⟨work, d, true⟩ } else s.chain i :=
  updateChain_chain s c (fun x => { x with shift := some ⟨work, d, true⟩ }) i

/-- No other chain still shifts for a work. -/
def OthersDone (s : State) (c : Fin 4) (work : ShiftWork) : Prop :=
  ∀ i, i < 4 → i ≠ c.val → ∀ x, (s.chain i).shift = some x → x.work ≠ work ∨ x.done = true

/-- Some chain still shifts for the work when another than the one completing does. -/
theorem shifting_completed {work : ShiftWork} : (completed s c work d).shifting work = true ↔ ¬ OthersDone s c work := by
  rw [shifting_iff, OthersDone]
  push Not
  refine exists_congr fun i => and_congr_right fun hi => ?_
  rw [completed_chain]
  by_cases own : c.val = i
  · simp [own]
  · simp [own, Ne.symm own]

/-! ### A transfer (R133) -/

/-- The record is TRANSFERRED when no chain still shifts. -/
theorem finishTransfer_eq {p : Pick} {runs : Runs} (staged : s.pcm.staging = some ⟨p, .transferring runs⟩) :
    s.finishTransfer = { s with pcm := if s.shifting .transfer then s.pcm else { s.pcm with staging := some ⟨p, .transferred runs⟩ } } := by
  rw [State.finishTransfer, staged]
  by_cases going : s.shifting .transfer = true
  · simp only [going, if_true]
  · simp only [going, Bool.false_eq_true, if_false]

/-- A chain's completion in a transfer: the chain waits for its strobe, the record may be TRANSFERRED, and the echo is compared. -/
theorem shiftPassed_transfer {p : Pick} {runs : Runs} (shifts : (s.chain c.val).shift = some ⟨.transfer, d, false⟩)
    (staged : s.pcm.staging = some ⟨p, .transferring runs⟩) :
    ∃ pcm, s.shiftPassed c ⟨.transfer, d, false⟩ sensed =
        { (completed s c .transfer d).compareEcho c.val sensed with pcm := pcm } ∧
      (OthersDone s c .transfer → pcm = { s.pcm with staging := some ⟨p, .transferred runs⟩ }) ∧
      (¬ OthersDone s c .transfer → pcm = s.pcm) := by
  obtain ⟨hft, llp, evs, compared⟩ := compareEcho_moves (completed s c .transfer d) c.val sensed
  have passed : s.shiftPassed c ⟨.transfer, d, false⟩ sensed = ((completed s c .transfer d).compareEcho c.val sensed).finishTransfer := by
    rw [State.shiftPassed, completed_eq shifts]
  have ends := finishTransfer_eq (s := { completed s c .transfer d with hft := hft, llp := llp, evs := evs }) staged
  refine ⟨_, passed.trans (by rw [compared]; exact ends), fun done => if_neg fun going => ?_, fun going => if_pos ?_⟩
  · exact shifting_completed.1 going done
  · exact shifting_completed.2 going

/-! ### The end of a re-presentation (R121, R123) -/

/-- A source's occurrence changes the sync flags and a wait alone, with the answer to it. -/
theorem occur_moves (s : State) (x : SyncSource) : ∃ sync0 sync1 wait response work,
    s.occur x = { s with stu := { s.stu with sync0 := sync0, sync1 := sync1, wait := wait }
                         dlp := { s.dlp with response := response, work := work } } := by
  unfold State.occur State.settleWait
  split
  · split
    · exact ⟨_, _, _, _, _, rfl⟩
    · exact ⟨_, _, _, _, _, rfl⟩
  · exact ⟨_, _, _, _, _, rfl⟩

/-- A flag raised leaves the others. -/
theorem flag_or_bit (flags : BitVec 15) (f g : EventFlag) : (flags ||| f.bit).getLsbD g.index = (flags.getLsbD g.index || decide (f = g)) := by
  rw [BitVec.getLsbD_or, bit_getLsbD]

/-- A re-presentation with faulty chains answers CHAIN_FAULT and stops, with the staging record EMPTY (R123, R18). -/
theorem answerRepresentation_faulty {r : Representation} (faulty : r.faulty ≠ 0) (still : s.stu.weaving ≠ .running)
    (empty : s.pcm.staging = none) (room : s.llp.queue.length < 16) :
    ∃ stu dlp llp evs, s.answerRepresentation r = { s with stu := stu, dlp := dlp, llp := llp, evs := evs } ∧
      EndsInChainFault s { s with stu := stu, dlp := dlp, llp := llp, evs := evs } r.g r.faulty := by
  have answers : s.answerRepresentation r = (State.hardStop { s with llp.queue := s.llp.queue ++ [.chainFault r.g r.faulty] }
      .chainFault false).raise .chainFault := by
    refine (if_neg faulty).trans ?_
    rw [send_room _ room]
  cases weaving : s.stu.weaving with
  | running => exact absurd weaving still
  | stopped =>
    have stops : s.answerRepresentation r = State.raise (State.recordStop { s with llp.queue := s.llp.queue ++ [.chainFault r.g r.faulty] }
        { cause := .chainFault, channel := none, mode := .immediate }) .chainFault := by
      rw [answers, State.hardStop]
      simp only [weaving, Bool.false_eq_true, if_false, State.discardStaging, empty]
    refine ⟨_, _, _, _, stops, rfl, ?_, weaving, rfl, rfl, fun finding => absurd (weaving.symm.trans finding) nofun, fun _ => ⟨?_, rfl⟩⟩
    · exact (flag_or_bit s.evs.flags .chainFault .chainFault).trans (by simp)
    · exact (flag_or_bit s.evs.flags .chainFault .stopped).trans (by simp [State.flag])
  | finding =>
    obtain ⟨sync0, sync1, wait, response, work, occurs⟩ := occur_moves (State.raise { s with
      llp.queue := s.llp.queue ++ [.chainFault r.g r.faulty], stu.weaving := .stopped } .stopped) .stopped
    have stops : s.answerRepresentation r = State.raise (State.recordStop (State.occur (State.raise { s with
        llp.queue := s.llp.queue ++ [.chainFault r.g r.faulty], stu.weaving := .stopped } .stopped) .stopped)
        { cause := .chainFault, channel := none, mode := .immediate }) .chainFault := by
      rw [answers, State.hardStop]
      simp only [weaving, Bool.false_eq_true, if_false, State.enterStopped]
    rw [occurs] at stops
    refine ⟨_, _, _, _, stops, rfl, ?_, rfl, rfl, rfl, fun _ => ?_, fun stopped => absurd (weaving.symm.trans stopped) nofun⟩
    · exact (flag_or_bit _ .chainFault .chainFault).trans (by simp)
    · show ((s.evs.flags ||| EventFlag.stopped.bit) ||| EventFlag.chainFault.bit).getLsbD EventFlag.stopped.index = true
      rw [flag_or_bit, flag_or_bit]
      simp

/-- The strobe on a chain that does not still shift for the re-presentation (R121). -/
theorem strobed_strobeRepresentation {k : Chain} (done : ∀ x, k.shift = some x → x.work ≠ .representation ∨ x.done = true) :
    Strobed k k.strobeRepresentation := by
  refine ⟨fun d shifts => by rw [Chain.strobeRepresentation, shifts], fun other => ?_⟩
  unfold Chain.strobeRepresentation
  split
  · next drive finished shifts =>
    cases finished with
    | true => exact absurd shifts (other drive)
    | false => exact absurd (done _ shifts) (by simp)
  · rfl

/-- The chains as the end of a re-presentation strobes them. -/
def strobedChains (s : State) : State := { s with hcu.chains := tabMap (fun _ (k : Chain) => k.strobeRepresentation) s.hcu.chains }

/-- A re-presentation ends when the chain was the last to shift for it. -/
theorem finishRepresentation_eq {r : Representation} (presents : s.ph.representing = some r) :
    s.finishRepresentation =
      if s.shifting .representation then s else { (strobedChains s).answerRepresentation r with ph.representing := none } := by
  rw [State.finishRepresentation, presents]
  rfl

/-- A chain's completion in a re-presentation, the echo as the image. -/
theorem shiftPassed_representation (shifts : (s.chain c.val).shift = some ⟨.representation, d, false⟩)
    (same : ∀ i, i < (s.chain c.val).hooks → sensed.getLsbD i = (s.chain c.val).image.getLsbD i) :
    s.shiftPassed c ⟨.representation, d, false⟩ sensed = (completed s c .representation d).finishRepresentation := by
  have own : (completed s c .representation d).chain c.val = { s.chain c.val with shift := some ⟨.representation, d, true⟩ } :=
    (completed_chain ..).trans (if_pos rfl)
  have compared : (completed s c .representation d).compareEcho c.val sensed = completed s c .representation d :=
    compareEcho_same (by rw [own]; exact same)
  rw [State.shiftPassed, completed_eq shifts, compared]

/-- What the strobe at the end of a re-presentation makes of the chains, the completing one and the others (R121). -/
theorem strobedChains_completed (done : OthersDone s c .representation) :
    (strobedChains (completed s c .representation d)).chain c.val = { s.chain c.val with image := d, shift := none } ∧
    ∀ i, i < 4 → i ≠ c.val → Strobed (s.chain i) ((strobedChains (completed s c .representation d)).chain i) := by
  have chain (i : Nat) (hi : i < 4) : (strobedChains (completed s c .representation d)).chain i =
      ((completed s c .representation d).chain i).strobeRepresentation := tabGet_tabMap _ _ i hi _ _
  refine ⟨?_, fun i hi other => ?_⟩
  · rw [chain _ c.isLt, completed_chain, if_pos rfl]
    rfl
  · rw [chain _ hi, completed_chain, if_neg (Ne.symm other)]
    exact strobed_strobeRepresentation (done i hi other)

/-! ### A presentation (R131) -/

/-- The drive of a lift rests on the states and the modules of the chains and on the fault table. -/
theorem driveShare_congr (chains : ∀ i, (v.chain i).state = (s.chain i).state ∧ (v.chain i).modules = (s.chain i).modules)
    (hft : v.hft = s.hft) : v.driveShare = s.driveShare := by
  have states (i : Nat) : (v.chain i).state = (s.chain i).state := (chains i).1
  have hooks (i : Nat) : (v.chain i).hooks = (s.chain i).hooks := congrArg (· * Config.hooksPerModule) (chains i).2
  have value : v.driveValue = s.driveValue := by
    have drives : v.drives = s.drives := by
      funext presenting i
      rw [State.drives, State.drives, states]
    have stands : v.hookExists = s.hookExists := by
      funext h
      simp only [State.hookExists, hooks]
    funext presenting lift h
    rw [State.driveValue, State.driveValue, drives, stands, hft]
  funext presenting lift i
  rw [State.driveShare, State.driveShare, value, hooks]

/-- A presentation begins on its own chain. -/
theorem beginPresentation_chain (s : State) (c : Fin 4) (p : Pick) (i : Nat) : (s.beginPresentation c p).chain i =
    if c.val = i then (s.chain c.val).begin .presentation (s.driveShare (some c) p.lift c.val) else s.chain i :=
  updateChain_chain s c (fun x => x.begin .presentation (s.driveShare (some c) p.lift c.val)) i

/-- A chain's record changed as the probe is answered. -/
theorem answerProbe_chain (s : State) (c : Fin 4) (f : Chain → Chain) (pr : Probe) (i : Nat) :
    ((s.updateChain c.val f).answerProbe pr).chain i = if c.val = i then f (s.chain c.val) else s.chain i :=
  updateChain_chain s c f i

/-- The state once a presentation's echo is compared, with the mismatches found counted into the probe (R131, R134). -/
def presented (s : State) (c : Fin 4) (d sensed : Share) (pr : Probe) : State :=
  { (completed s c .presentation d).compareEcho c.val sensed with hcu.probing := some { pr with
      mismatches := (List.range (s.chain c.val).hooks).countP fun i => sensed.getLsbD i != (s.chain c.val).image.getLsbD i } }

/-- A presentation of the shed that stands is strobed on its chain, and the probe is answered; of another shed it is made again (R131). -/
theorem shiftPassed_presentation {pr : Probe} {p : Pick} (shifts : (s.chain c.val).shift = some ⟨.presentation, d, false⟩)
    (probing : s.hcu.probing = some pr) (own : pr.chain = c) (shed : s.ph.shed = some p) :
    s.shiftPassed c ⟨.presentation, d, false⟩ sensed =
      let found := (List.range (s.chain c.val).hooks).countP fun i => sensed.getLsbD i != (s.chain c.val).image.getLsbD i
      if pr.presented = some p.g then
        ((presented s c d sensed pr).updateChain c.val fun x => { x with state := .active, image := d, shift := none }).answerProbe
          { pr with mismatches := found }
      else (presented s c d sensed pr).beginPresentation c p := by
  subst own
  obtain ⟨hft, llp, evs, compared⟩ := compareEcho_moves (completed s pr.chain .presentation d) pr.chain.val sensed
  rw [State.shiftPassed, completed_eq shifts, mismatches_length, presented, compared]
  simp only [completed, probing, State.finishPresentation, shed]

end Sys2Proof.Machine.Program
end

section
/-! What a chain's completion leaves of the part, work by work (R121, R123, R131 to R134, R146 to R148). -/

namespace Sys2Proof.Machine.Program

open Sys2Proof Sys2Proof.Machine

variable {s : State} {c : Fin 4} {d sensed : Share}

/-! ### One mismatch in a transfer -/

/-- What one mismatch report on hook `h` leaves of the fault table, the transmit queue and the event unit, case by case (R146 to R148). -/
def Reported (s t : State) (h : Nat) (sense : Sense) : Prop :=
  (s.hft.find h = none → s.hft.substituted h = none → s.hft.entries.length < 128 →
    Stored s t h sense 1 false (s.hft.entries.length + 1) ∧
    t.evs = { s.evs with flags := s.evs.flags ||| EventFlag.bit .hookLearned, learned := some (h, sense) }) ∧
  (s.hft.find h = none → s.hft.substituted h = none → 128 ≤ s.hft.entries.length →
    t.hft = { s.hft with fullMisses := bump s.hft.fullMisses } ∧ t.llp = s.llp ∧
    t.evs = { s.evs with flags := s.evs.flags ||| EventFlag.bit .faultTableFull }) ∧
  (s.hft.find h = none → (s.hft.substituted h).isSome →
    t.hft = { s.hft with spareMismatch := bump s.hft.spareMismatch } ∧ t.llp = s.llp ∧ t.evs = s.evs) ∧
  (∀ e age sent, s.hft.find h = some e → e.kind = .learned age sent →
    Stored s t h sense (min (e.count + 1) 255) sent s.hft.entries.length ∧ t.evs = s.evs) ∧
  ∀ e a, s.hft.find h = some e → e.kind = .fixed a → t.hft = s.hft ∧ t.llp = s.llp ∧ t.evs = s.evs

theorem reported_reportMismatch (h : Nat) (sense : Sense) (sorted : s.hft.entries.Pairwise fun a b => a.hook < b.hook)
    (room : s.llp.queue.length < 16) : Reported s (s.reportMismatch (h, sense)) h sense := by
  refine ⟨reportMismatch_learned sorted room, fun fresh serves full => ?_, fun fresh serves => ?_,
    fun e age sent found learned => reportMismatch_refreshed sorted room found learned, fun e a found fixed => ?_⟩
  · rw [reportMismatch_full fresh serves full]
    exact ⟨rfl, rfl, rfl⟩
  · rw [reportMismatch_spare fresh serves]
    exact ⟨rfl, rfl, rfl⟩
  · rw [reportMismatch_fixed found fixed]
    exact ⟨rfl, rfl, rfl⟩

/-- The chain completing keeps its hooks and its image until the strobe. -/
theorem completed_own (s : State) (c : Fin 4) (work : ShiftWork) (d : Share) :
    (completed s c work d).chain c.val = { s.chain c.val with shift := some ⟨work, d, true⟩ } :=
  (completed_chain ..).trans (if_pos rfl)

/-- The comparison of an echo with one mismatch, as a chain completes. -/
theorem compareEcho_completed {work : ShiftWork} {i : Nat} (hi : i < (s.chain c.val).hooks)
    (alone : ∀ j, j < (s.chain c.val).hooks → (sensed.getLsbD j ≠ (s.chain c.val).image.getLsbD j ↔ j = i))
    (sorted : s.hft.entries.Pairwise fun a b => a.hook < b.hook) (room : s.llp.queue.length < 16) :
    Reported { s with evs.chains.echoMismatch := countAt s.evs.chains.echoMismatch c.val 1 }
      ((completed s c work d).compareEcho c.val sensed) (c.val * 3072 + i)
      (if (s.chain c.val).image.getLsbD i then .stuckDown else .stuckUp) := by
  have own := completed_own s c work d
  rw [compareEcho_alone (s := completed s c work d) (i := i) (by rw [own]; exact hi) (by rw [own]; exact alone), own]
  exact reported_reportMismatch (s := { completed s c work d with
    evs.chains.echoMismatch := countAt s.evs.chains.echoMismatch c.val 1 }) _ _ sorted room

/-! ### The end of a re-presentation -/

/-- The last chain to complete ends the re-presentation: the strobe, and BACK_DONE or the chain fault (R121, R123). -/
theorem finishRepresentation_last {r : Representation} (presents : s.ph.representing = some r) (done : OthersDone s c .representation)
    (still : s.stu.weaving ≠ .running) (empty : s.pcm.staging = none) (room : s.llp.queue.length < 16) :
    ∃ stu dlp llp evs, (completed s c .representation d).finishRepresentation =
        { strobedChains (completed s c .representation d) with
          stu := stu, dlp := dlp, llp := llp, evs := evs, ph.representing := none } ∧
      (r.faulty = 0 → stu = s.stu ∧ dlp = s.dlp ∧ evs = s.evs ∧ llp = { s.llp with queue := s.llp.queue ++ [.backDone r.g] }) ∧
      (r.faulty ≠ 0 → EndsInChainFault s { s with stu := stu, dlp := dlp, llp := llp, evs := evs } r.g r.faulty) := by
  have ends : (completed s c .representation d).finishRepresentation =
      { (strobedChains (completed s c .representation d)).answerRepresentation r with ph.representing := none } :=
    (finishRepresentation_eq (s := completed s c .representation d) presents).trans (if_neg fun going => shifting_completed.1 going done)
  by_cases sound : r.faulty = 0
  · have answers : (strobedChains (completed s c .representation d)).answerRepresentation r =
        (strobedChains (completed s c .representation d)).send (.backDone r.g) := if_pos sound
    rw [answers, send_room (s := strobedChains (completed s c .representation d)) _ room] at ends
    exact ⟨_, _, _, _, ends, fun _ => ⟨rfl, rfl, rfl, rfl⟩, fun faulty => absurd sound faulty⟩
  · obtain ⟨stu, dlp, llp, evs, answers, fault⟩ :=
      answerRepresentation_faulty (s := strobedChains (completed s c .representation d)) sound still empty room
    rw [answers] at ends
    exact ⟨stu, dlp, llp, evs, ends, fun sound' => absurd sound' sound, fun _ => fault⟩

/-! ### The end of a presentation -/

variable {pr : Probe} {p : Pick}

theorem presented_chain (s : State) (c : Fin 4) (d sensed : Share) (pr : Probe) (i : Nat) : (presented s c d sensed pr).chain i =
    if c.val = i then { s.chain c.val with shift := some ⟨.presentation, d, true⟩ } else s.chain i := by
  obtain ⟨hft, llp, evs, compared⟩ := compareEcho_moves (completed s c .presentation d) c.val sensed
  rw [presented, compared]
  exact completed_chain s c .presentation d i

/-- A comparison leaves the blocks but for the chains, the fault table, the transmit queue and the event unit. -/
theorem presented_moves (s : State) (c : Fin 4) (d sensed : Share) (pr : Probe) : ∃ chains probing hft llp evs,
    presented s c d sensed pr =
      { s with hcu := { s.hcu with chains := chains, probing := probing }, hft := hft, llp := llp, evs := evs } := by
  obtain ⟨hft, llp, evs, compared⟩ := compareEcho_moves (completed s c .presentation d) c.val sensed
  exact ⟨_, _, hft, llp, evs, by rw [presented, compared, completed]⟩

/-- The shed that stands: the chain alone is strobed and ACTIVE, and the probe is answered with the mismatches found (R131). -/
theorem answerProbe_presented {k : Nat} (stands : pr.presented = some p.g) (own : pr.chain = c) :
    let t := ((presented s c d sensed pr).updateChain c.val fun x => { x with state := .active, image := d, shift := none }).answerProbe
      { pr with mismatches := k }
    t.chain c.val = { s.chain c.val with state := .active, image := d, shift := none } ∧
    t.dlp = { s.dlp with
      response := some { outcome := .accept, kind := 0x61#8, detail := .plain,
                         payload := u8 (s.chain c.val).probe.code ++ u8 (s.chain c.val).modules ++ [3, 1] ++ bytes32 p.g ++ u16 k }
      work := none } := by
  subst own
  have dlp : (presented s pr.chain d sensed pr).dlp = s.dlp := by
    obtain ⟨_, _, _, _, _, moved⟩ := presented_moves s pr.chain d sensed pr
    rw [moved]
  refine ⟨?_, ?_⟩
  · rw [answerProbe_chain, if_pos rfl, presented_chain, if_pos rfl]
  · simp only [State.answerProbe, State.answer, updateChain_chain, if_true, presented_chain, State.updateChain_dlp, dlp, stands]
    simp only [uOpt, u8, ChainState.code, List.cons_append, List.nil_append]
    rfl

/-- A chain presented anew shifts its share of the shed as it counts itself in (R131, R145). -/
theorem beginPresentation_presented
    (same : ∀ i, i < (s.chain c.val).hooks → sensed.getLsbD i = (s.chain c.val).image.getLsbD i) :
    ((presented s c d sensed pr).beginPresentation c p).chain c.val =
      { s.chain c.val with shift := some ⟨.presentation, s.driveShare (some c) p.lift c.val, false⟩ } := by
  have compared : (completed s c .presentation d).compareEcho c.val sensed = completed s c .presentation d :=
    compareEcho_same (by rw [completed_own]; exact same)
  have drive : (presented s c d sensed pr).driveShare = s.driveShare := by
    refine driveShare_congr (fun i => ?_) (by rw [presented, compared]; rfl)
    rw [presented_chain]
    split
    · next own => exact own ▸ ⟨rfl, rfl⟩
    · exact ⟨rfl, rfl⟩
  rw [beginPresentation_chain, if_pos rfl, presented_chain, if_pos rfl, drive]
  rfl

/-! ### The statement -/

/-- Settles O35: the work of the chain that completes, with its echo compared, and the end of that work. -/
theorem chainCompletes : Obligations.ChainCompletes := by
  refine ⟨fun c d => ⟨valuesIn_length c d, rfl, fun i hi => valuesIn_level c d hi⟩, fun s c d sensed values final echo => ?_⟩
  intro k hooks done same finished last
  refine ⟨fun p runs shifts staged => ?_, fun r shifts presents unchanged => ?_, fun pr p shifts probing own shed => ?_⟩
  · obtain ⟨pcm, passed, ended, going⟩ := shiftPassed_transfer (sensed := sensed) shifts staged
    obtain ⟨hft, llp, evs, compared⟩ := compareEcho_moves (completed s c .transfer d) c.val sensed
    refine ⟨_, (exec_chainShiftComplete_sound echo shifts rfl nofun).trans (congrArg _ passed), ?_, ended, going,
      fun unchanged => ?_, fun i hi alone sorted room => ?_⟩
    · rw [compared]
      rfl
    · rw [compareEcho_same (s := completed s c .transfer d) (by rw [completed_own]; exact unchanged)]
      rfl
    · have reported := compareEcho_completed (d := d) (work := .transfer) hi alone sorted room
      exact ⟨by rw [compared]; rfl, reported⟩
  · have completes := (exec_chainShiftComplete_sound echo shifts rfl nofun).trans
      (congrArg Host.Outcome.next (shiftPassed_representation shifts unchanged))
    refine ⟨fun going => completes.trans (congrArg Host.Outcome.next ?_), fun others still empty room => ?_⟩
    · exact (finishRepresentation_eq (s := completed s c .representation d) presents).trans (if_pos (shifting_completed.2 going))
    · obtain ⟨stu, dlp, llp, evs, ends, sound, faulty⟩ := finishRepresentation_last (d := d) presents others still empty room
      obtain ⟨own, strobes⟩ := strobedChains_completed (d := d) others
      exact ⟨_, completes.trans (congrArg Host.Outcome.next ends), rfl, rfl, own, strobes, sound, faulty⟩
  · have passed := (exec_chainShiftComplete_sound echo shifts rfl nofun).trans
      (congrArg Host.Outcome.next (shiftPassed_presentation (sensed := sensed) shifts probing own shed))
    obtain ⟨_, _, _, _, _, moved⟩ := presented_moves s c d sensed pr
    by_cases stands : pr.presented = some p.g
    · rw [if_pos stands] at passed
      obtain ⟨strobed, answered⟩ := answerProbe_presented (s := s) (d := d) (sensed := sensed) stands own
      refine ⟨_, passed, ?_, ?_, fun i _ other => ?_, fun _ => ⟨strobed, rfl, answered⟩, fun changed => absurd stands changed⟩
      · rw [moved]
        rfl
      · rw [moved]
        rfl
      · rw [answerProbe_chain, if_neg (Ne.symm other), presented_chain, if_neg (Ne.symm other)]
    · rw [if_neg stands] at passed
      refine ⟨_, passed, ?_, ?_, fun i _ other => ?_, fun stands' => absurd stands' stands,
        fun _ unchanged => ⟨?_, beginPresentation_presented unchanged, rfl⟩⟩
      · rw [moved]
        rfl
      · rw [moved]
        rfl
      · rw [beginPresentation_chain, if_neg (Ne.symm other), presented_chain, if_neg (Ne.symm other)]
      · rw [moved]
        rfl

end Sys2Proof.Machine.Program
end
